-- ==== Sys2Proof/Word.lean ====
section
/-!
DEFINITION. The word type of the JV416: the byte that a character of the quote link or of the reply line carries, that a
cell holds as its character code, and that a glyph row is given as.  Everything wider on the link is a run of bytes, read and
written in `Machine/Operands.lean`.
-/

namespace Sys2Proof

/-- One byte: the data value 00h..FFh of a link character (R1), a character code of a cell (R172), a glyph row (R181). -/
abbrev Byte := BitVec 8

end Sys2Proof
end

