-- ==== Sys2Proof/Syntax.lean ====
section
/-!
DEFINITION. The commands of the block: one constructor of `Instr` for each of the 50 rows of spec/opcode_table.json.  A row is
one whole, indivisible step of the part (95_what_each_step_holds.md).  A step of a link message (BIND, TICK, ...) is MDC's take
of the held message of that command (R12, R13): its parameters are the bytes of the message LKI holds, so its constructor
carries none (log entry 2, DESIGN CHOICE, safe).  A step that comes from outside carries what the outside presents: the sampled bits of a character,
the strap pins, the time the reply line has been high.
-/

namespace Sys2Proof

/-- A checked message as LKI hands it to MDC (R8): its command code and its parameter bytes.  The length byte L is the number
of parameter bytes, and the check byte has already made the sum 0. -/
structure Message where
  code : Byte
  params : List Byte
  deriving DecidableEq, Repr

/-- The commands: every row of the opcode table, in the table's order. -/
inductive Instr where
  /-- POWER_ON_RESET: the RESET pin goes low and is held low (R192). -/
  | powerOnReset
  /-- RESET_RELEASE: RESET goes high; `strap` is what the pins UA3..UA0 read then (R191). -/
  | resetRelease (strap : BitVec 4)
  /-- SETTLE_END: in SETTLE the quote link has been high for 12 bit times (R2). -/
  | settleEnd
  /-- ADDRESS_CHARACTER: the stop-bit sample of a character with mark 1; `parity` and `stop` are the sampled bits (R1, R3). -/
  | addressCharacter (value : Byte) (parity : Bool) (stop : Bool)
  /-- DATA_CHARACTER: the stop-bit sample of a character with mark 0; `parity` and `stop` are the sampled bits (R1, R6). -/
  | dataCharacter (value : Byte) (parity : Bool) (stop : Bool)
  /-- BREAK: the quote link has been low for 24 bit times (R2, R18). -/
  | breakEvent
  /-- ASSEMBLER_TAKE: the assembler takes the head entry of the inbound queue (R8). -/
  | assemblerTake
  /-- DISCARD_NOTICE_TAKE: MDC takes a held discard notice (R13). -/
  | discardNoticeTake
  /-- UNKNOWN_COMMAND: MDC takes a held message whose code names no command (R13). -/
  | unknownCommand
  /-- REPLY_START: the transmitter begins a reply; `highTime` is the count of high line time, in bit times (R16). -/
  | replyStart (highTime : Nat)
  /-- REPLY_END: the stop bit of the check byte of the reply being sent (R16). -/
  | replyEnd
  | bind
  | amend
  | retire
  | lookup
  | probe
  | tick
  | qtick
  | refer
  | extremesClear
  | stale
  | alerts
  | panelOpen
  | panelClose
  | panelFreeze
  | panelThaw
  | panelMove
  /-- VACATE_WRITE_GRANT: the arbiter grants MDC's pending vacating write (R121). -/
  | vacateWriteGrant
  | attrSet
  | schemeSet
  | schemeSwap
  | text
  | fill
  /-- TEXT_WRITE_GRANT: the arbiter grants MDC's pending TEXT or FILL write (R176). -/
  | textWriteGrant
  | showPage
  | pattern
  | glyphLoad
  | status
  | config
  | sync
  /-- PAINTER_TAKE: the Painter takes the head of the field queue (R144). -/
  | painterTake
  /-- PAINT_WRITE_GRANT: the arbiter grants the pending write of a LIVE paint job (R147). -/
  | paintWriteGrant
  /-- CLEAR_WRITE_GRANT: the arbiter grants the pending write of a clear job (R150). -/
  | clearWriteGrant
  /-- FRAME_START: the beginning of a frame (R177). -/
  | frameStart
  /-- ROW_READ: DOU reads the next character row of the shown page and draws its 14 lines (R182). -/
  | rowRead
  /-- SWEEP: AGU takes a highlight sweep (R165). -/
  | sweep
  /-- START_BIT_FALL: the quote link falls (R1; in SETTLE, R2). -/
  | startBitFall
  /-- FALSE_START: the line is high again at the middle of the start bit (R1). -/
  | falseStart
  /-- AWAIT_HIGH_EXIT: in AWAIT_HIGH the quote link goes high (R1). -/
  | awaitHighExit
  /-- REPLY_CUT_SHORT: the stop bit of the character in progress when a break cut the reply short (R18). -/
  | replyCutShort
  deriving DecidableEq, Repr

end Sys2Proof
end

