-- ==== Sys2Proof/Decode.lean ====
section
/-!
DEFINITION. The commands by the opcode table's bits.  No row of spec/opcode_table.json gives bits (every row's "fields" is
empty and none has "fixed"): a command of this block is an event or MDC's take of a message, not a word.  The bytes of the
messages themselves (Table 1-9) are read in `Machine/Operands.lean` (log entry 17, DEDUCED, safe).
-/

namespace Sys2Proof

/-- The command that a word spells by the table's bits: the table gives none to any row, so no word spells a command. -/
def decodeTableWord (_nbits _w : Nat) : Option Instr := none

end Sys2Proof
end

