-- ==== Sys2Proof/Machine/Table.lean ====
section
/-!
DEFINITION. The one form in which every table of the part is held: the record slots, the bucket chains, the Claim Map, the
panel table, the attribute table, the scheme banks, the cells of the four pages and the user glyphs.  A table is a list of
(index, entry) pairs with the indices strictly rising and no listed entry equal to the entry an unlisted index reads as (the
entry power-on reset gives it), so that equal tables are equal data.
-/

namespace Sys2Proof.Machine

/-- A table by index: the listed entries, all others being the table's default entry. -/
abbrev Table (α : Type) := List (Nat × α)

/-- The entry at index `k`; `d` where the table lists none. -/
def Table.get {α : Type} (d : α) : Table α → Nat → α
  | [], _ => d
  | (j, v) :: t, k => if j = k then v else Table.get d t k

/-- The table with `v` listed at `k`, the indices kept rising. -/
def Table.insert {α : Type} : Table α → Nat → α → Table α
  | [], k, v => [(k, v)]
  | (j, w) :: t, k, v =>
    if k < j then (k, v) :: (j, w) :: t
    else if k = j then (k, v) :: t
    else (j, w) :: Table.insert t k v

/-- The table with no entry listed at `k`. -/
def Table.erase {α : Type} (t : Table α) (k : Nat) : Table α := t.filter (fun e => e.1 != k)

/-- The table with the entry at `k` made `v`: writing the default removes the entry, so the form stays canonical. -/
def Table.set {α : Type} [DecidableEq α] (d : α) (t : Table α) (k : Nat) (v : α) : Table α :=
  if v = d then Table.erase t k else Table.insert t k v

/-- Every index of the table is above `b`. -/
def Table.above {α : Type} (b : Nat) (t : Table α) : Bool := t.all (fun e => b < e.1)

/-- The canonical form: indices strictly rising, and no listed entry equal to the default. -/
def Table.wf {α : Type} [DecidableEq α] (d : α) : Table α → Bool
  | [] => true
  | (k, v) :: t => v != d && Table.above k t && Table.wf d t

end Sys2Proof.Machine
end

