-- ==== Sys2Proof/Machine/State.lean ====
section
/-!
DEFINITION. The state of the JV416: the state of each block of Table 0-1 in a structure of its own, and the queue of commands
that wait.  All of it is plain data.  INVENTORY.md lists every field with the rule that names it and its reset value.
-/

namespace Sys2Proof.Machine

/-! ## The Link Interface (LKI), chapter 1 -/

/-- Table 1-2, the receiver of the quote link. -/
inductive RxState where
  | hunt | receive | awaitHigh | settle
  deriving DecidableEq, Repr

/-- Section 1.2, the selection state. -/
inductive Selection where
  | deaf | loud | quiet
  deriving DecidableEq, Repr

/-- Section 1.3: an entry of the inbound queue, one data character with its five attributes. -/
structure InEntry where
  value : Byte
  parityError : Bool
  framingError : Bool
  gap : Bool
  boundary : Bool
  reply : Bool
  deriving DecidableEq, Repr

/-- Section 1.4: what the assembler keeps of the message being assembled.  `params` are the parameter bytes received so far,
`sum` the running sum, `reply` the reply flag of the code entry, `gapSeen` and `lineSeen` the two damage indications. -/
structure Partial where
  code : Byte
  length : Nat
  params : List Byte
  sum : Byte
  reply : Bool
  gapSeen : Bool
  lineSeen : Bool
  deriving DecidableEq, Repr

/-- Table 1-4, the message assembler with the message it is assembling. -/
inductive Assembler where
  | waitCode
  | waitLength (m : Partial)
  | params (m : Partial)
  | waitCheck (m : Partial)
  | skip
  deriving DecidableEq, Repr

/-- R10, why a damaged message was discarded. -/
inductive DiscardReason where
  | overrun | line | check
  deriving DecidableEq, Repr

/-- R10, R11: what LKI holds for MDC, a message or a discard notice, each with its reply flag. -/
inductive HeldItem where
  | message (m : Message) (reply : Bool)
  | notice (code : Byte) (reason : DiscardReason) (reply : Bool)
  deriving DecidableEq, Repr

/-- R16, R18: what the transmitter does to the reply line.  `released`: it drives nothing, and is IDLE or WAITING.
`sending bits`: it is SENDING the reply at the head of the queue, whose line levels are `bits`, one a bit time.
`cutShort`: a break has emptied the queue and it finishes the character in progress. -/
inductive TxLine where
  | released
  | sending (bits : List Bool)
  | cutShort
  deriving DecidableEq, Repr

/-- The state LKI holds. -/
structure Lki where
  /-- the receiver state (Table 1-2) -/
  rx : RxState
  /-- the selection state (R3) -/
  selection : Selection
  /-- the inbound queue, head first, at most 64 entries (R6) -/
  inbound : List InEntry
  /-- the pending gap (R7) -/
  gapPending : Bool
  /-- the assembler state with the message being assembled (R8) -/
  assembler : Assembler
  /-- the held message or discard notice (R11) -/
  held : Option HeldItem
  /-- the reply-owed mark of the message in execution (R12) -/
  replyOwed : Bool
  /-- the reply queue, head first, at most 4 replies, each with all its characters (R15) -/
  replies : List (List Byte)
  /-- the transmitter (R16) -/
  tx : TxLine
  /-- the count of high line time of the reply line, in bit times, as last read (R16; log entry 5, DESIGN CHOICE, unsafe) -/
  replyHigh : Nat
  /-- the reply gap, 0..255 bit times (R17) -/
  replyGap : Nat
  /-- the unit address u (R19, R191) -/
  unitAddress : BitVec 4
  deriving DecidableEq, Repr

/-! ## The Field Table (FTB), chapters 2 and 3 -/

/-- Table 2-1. -/
inductive SlotState where
  | free | live | retiring
  deriving DecidableEq, Repr

/-- Table 2-3, in the order of their numbers. -/
inductive Kind where
  | bid | ask | last | size | net | high | low
  deriving DecidableEq, Repr

/-- Table 5-1. -/
inductive FormatMode where
  | dec | frac | count
  deriving DecidableEq, Repr

/-- The format descriptor as stored (Table 2-4): mode, source precision, display precision after clamping, and the options:
sign mode ALWAYS, fill ZERO, degrade ON, highlight mode DIGITS when the flag is true. -/
structure Format where
  mode : FormatMode
  source : Nat
  display : Nat
  signAlways : Bool
  fillZero : Bool
  degrade : Bool
  digits : Bool
  deriving DecidableEq, Repr

/-- Table 2-4. -/
inductive BandMode where
  | off | inside | outside
  deriving DecidableEq, Repr

/-- R31: the band state; `unset` is "none", `within` is IN. -/
inductive BandState where
  | unset | below | within | above
  deriving DecidableEq, Repr

/-- R28: the class of the last value change; `unset` is NONE. -/
inductive Direction where
  | unset | first | up | down | same
  deriving DecidableEq, Repr

/-- R32: the kind of highlight; `off` is NONE. -/
inductive HighlightKind where
  | off | tick | alert
  deriving DecidableEq, Repr

/-- The settings of Table 2-4 (R26). -/
structure Settings where
  format : Format
  bandMode : BandMode
  lo : Int
  hi : Int
  filter : Nat
  deriving DecidableEq, Repr

/-- A record slot (section 2.3).  `page`, `row` and `col` are the resolved anchor (R25). -/
structure Record where
  state : SlotState
  instrument : Nat
  kind : Kind
  panel : Nat
  rowOffset : Nat
  colOffset : Nat
  page : Nat
  row : Nat
  col : Nat
  width : Nat
  settings : Settings
  current : Option Int
  previous : Option Int
  direction : Direction
  reference : Option Int
  lastOperand : Option Int
  stale : Bool
  suspect : Bool
  alert : Bool
  suspectValue : Option Int
  holdCount : Nat
  band : BandState
  highlight : HighlightKind
  age : Nat
  /-- the flash mask: the span positions in it, rising (R32) -/
  mask : List Nat
  newValue : Bool
  queued : Bool
  due : Bool
  /-- the painted image (R33) -/
  image : Option (List Byte)
  deriving DecidableEq, Repr

/-- The settings of the empty record: "none; not reported" (Table 2-2), so nothing reads them (log entry 4, DESIGN CHOICE,
unsafe). -/
def Settings.empty : Settings :=
  { format := { mode := .dec, source := 0, display := 0, signAlways := false, fillZero := false, degrade := false,
                digits := false }
    bandMode := .off, lo := 0, hi := 0, filter := 0 }

/-- Table 2-2, the empty record a FREE slot holds (R23).  The fields the table gives as "none; not reported" stand at 0, BID or
OFF: nothing reads them before BIND writes them (log entry 4, DESIGN CHOICE, unsafe). -/
def Record.empty : Record :=
  { state := .free, instrument := 0, kind := .bid, panel := 0, rowOffset := 0, colOffset := 0, page := 0, row := 0, col := 0
    width := 0, settings := Settings.empty, current := none, previous := none, direction := .unset, reference := none
    lastOperand := none, stale := false, suspect := false, alert := false, suspectValue := none, holdCount := 0
    band := .unset, highlight := .off, age := 0, mask := [], newValue := false, queued := false, due := false
    image := none }

/-- The state FTB holds. -/
structure Ftb where
  /-- the 1024 record slots; an unlisted slot holds the empty record (R23) -/
  slots : Table Record
  /-- the Key Index: the chain of each of the 256 buckets, oldest bound first (R35); the chain link of a slot is the slot after
  it here (log entry 8, DEDUCED, safe) -/
  chains : Table (List Nat)
  /-- the Claim Map: the slot claiming each cell, `none` where unlisted (R47) -/
  claims : Table (Option Nat)
  liveCount : Nat
  retiringCount : Nat
  freeCount : Nat
  deriving DecidableEq, Repr

/-! ## The Tick Evaluator (TEV), section 4.9 -/

/-- R89, an entry of the alert list. -/
structure AlertEntry where
  slot : Nat
  instrument : Nat
  kind : Kind
  band : BandState
  value : Int
  deriving DecidableEq, Repr

/-! ## The Panel Table (PNL), chapter 6 -/

/-- R127. -/
inductive Bank where
  | a | b
  deriving DecidableEq, Repr

/-- Table 6-1, an OPEN or FROZEN panel.  A CLOSED entry holds no rectangle and no bank, so it is `none` in the panel table. -/
structure Panel where
  frozen : Bool
  page : Nat
  row : Nat
  col : Nat
  height : Nat
  width : Nat
  bank : Bank
  deriving DecidableEq, Repr

/-! ## The Attribute Unit (ATU), chapter 7 -/

/-- Table 7-1, an attribute table entry; colours are colour numbers, bit 3 the intensity (R183). -/
structure Attr where
  foreground : BitVec 4
  background : BitVec 4
  bold : Bool
  underline : Bool
  reverse : Bool
  blink : Bool
  deriving DecidableEq, Repr

/-- R124: what power-on reset puts into every attribute entry. -/
def Attr.initial : Attr :=
  { foreground := 7, background := 0, bold := false, underline := false, reverse := false, blink := false }

/-- The state ATU holds: the 64 attribute entries and the two scheme banks, by condition number (R124, R127). -/
structure Atu where
  attrs : Table Attr
  bankA : Table Nat
  bankB : Table Nat
  deriving DecidableEq, Repr

/-! ## The Painter (PTR), chapter 8 -/

/-- A cell write: the cell by its number (page × 50 + row) × 132 + column, the character and the attribute index. -/
structure CellWrite where
  cell : Nat
  char : Byte
  attr : Nat
  deriving DecidableEq, Repr

/-- R145, the snapshot of a LIVE paint job. -/
structure Snapshot where
  page : Nat
  row : Nat
  col : Nat
  width : Nat
  format : Format
  current : Option Int
  direction : Direction
  stale : Bool
  suspect : Bool
  alert : Bool
  highlight : HighlightKind
  age : Nat
  mask : List Nat
  newValue : Bool
  image : Option (List Byte)
  deriving DecidableEq, Repr

/-- Table 8-2, the Painter with its job in hand.  `writes` are the writes not yet granted; the first of them is pending. -/
inductive Painter where
  | idle
  | painting (slot : Nat) (snapshot : Snapshot) (bank : Bank) (string : List Byte) (writes : List CellWrite)
  | clearing (slot : Nat) (writes : List CellWrite)
  deriving DecidableEq, Repr

/-- The state PTR holds: the field queue, head first (R139), and the job in hand. -/
structure Ptr where
  queue : List Nat
  painter : Painter
  deriving DecidableEq, Repr

/-! ## The Message Decoder (MDC), sections 1.5, 6.5, 8.8 and 10.2 -/

/-- MDC: IDLE, or BUSY with the message in execution and what its execution still has to do (Table 1-5). -/
inductive Mdc where
  | idle
  /-- TEXT or FILL: the writes not yet granted (R174, R175). -/
  | writing (m : Message) (writes : List CellWrite)
  /-- PANEL_MOVE of `panel`: the record being vacated, its vacating writes not yet granted, and the records still to be
  treated; `cleared` is the CLEARED index read at the take (R120, R128). -/
  | moving (m : Message) (panel : Nat) (cleared : Nat) (slot : Nat) (writes : List CellWrite) (rest : List Nat)
  /-- SYNC: its fence, the job in hand at the take (if any) and the slots queued then (R157). -/
  | syncing (m : Message) (job : Bool) (slots : List Nat)
  deriving DecidableEq, Repr

/-! ## The Aging Unit (AGU), chapter 9 -/

/-- Table 9-1. -/
structure Agu where
  owed : Nat
  flashFrames : Nat
  alertFrames : Nat
  threshold : Nat
  deriving DecidableEq, Repr

/-! ## The Cell Store (CST) and the Display Output Unit (DOU), chapter 10 -/

/-- R172, a cell. -/
structure Cell where
  char : Byte
  attr : Nat
  deriving DecidableEq, Repr

/-- R172: what power-on reset puts into every cell. -/
def Cell.blank : Cell := { char := 0x20, attr := 0 }

/-- R156, who asks for the write port. -/
inductive Requester where
  | ptr | mdc
  deriving DecidableEq, Repr

/-- The state CST holds: the cells of the four pages by cell number, and the arbiter's last-granted mark. -/
structure Cst where
  cells : Table Cell
  mark : Requester
  deriving DecidableEq, Repr

/-- The levels 0..3 of the video outputs VR, VG and VB for one pixel (R183). -/
structure Rgb where
  red : Nat
  green : Nat
  blue : Nat
  deriving DecidableEq, Repr

/-- All three outputs at level 0, as during blanking (R183). -/
def Rgb.black : Rgb := { red := 0, green := 0, blue := 0 }

/-- What the video pins carry in one PIXCLK period (Table 10-6): the levels, and whether HSYNC and VSYNC are asserted, that is low. -/
structure VideoPins where
  levels : Rgb
  hsync : Bool
  vsync : Bool
  deriving DecidableEq, Repr

/-- The outputs while RESET is low and until the first frame start: level 0 with no synchronisation pulse (R184, R192). -/
def VideoPins.quiet : VideoPins := { levels := Rgb.black, hsync := false, vsync := false }

/-- What the video pins carry from one event of DOU to its next.  `steady`: the same in every period.  `lines`: these pixel lines
one after the other, each period by period (R177). -/
inductive Video where
  | steady (pins : VideoPins)
  | lines (ls : List (List VideoPins))
  deriving DecidableEq, Repr

/-- R181: what power-on reset puts into every user glyph. -/
def blankGlyph : List Byte := List.replicate 14 0

/-- The state DOU holds.  `frameAttrs` and `frameGlyphs` are the attribute table and the user glyph RAM as the last frame start
took them (R177); `nextRow` is the next character row to be read, none before the first frame start and 50 when the frame's rows have all been
read; `rowCells` is the last row read; `video` is what the video pins carry: level 0 and no pulse before the first frame start
(R184), the 50 lines of vertical blanking after a frame start, the 14 lines of a row after its read (R177, R182, R183).  The
last five are the model's own fields for what is being drawn (log entry 20, DESIGN CHOICE, safe). -/
structure Dou where
  shown : Nat
  pendingPage : Option Nat
  pattern : Bool
  pendingPattern : Option Bool
  blink : Nat
  glyphs : Table (List Byte)
  frameAttrs : Table Attr
  frameGlyphs : Table (List Byte)
  nextRow : Option Nat
  rowCells : List Cell
  video : Video
  deriving DecidableEq, Repr

/-! ## The Status Unit (STU), chapter 11 -/

/-- The state STU holds: the sticky flags and the flag notice enables in the order of the sticky flag byte (Table 11-1), and the
alert notice enable. -/
structure Stu where
  sticky : Byte
  flagEnables : Byte
  alertEnable : Bool
  deriving DecidableEq, Repr

/-! ## The whole part -/

/-- The state of the part.  `pending` is the model's own field, the commands that wait, first in, first out; `resetLow` is the
RESET pin; `alerts` is TEV's alert list, oldest first (R89); `panels` the 32 panel entries, `none` where CLOSED (R111). -/
structure State where
  pending : List Instr
  resetLow : Bool
  lki : Lki
  mdc : Mdc
  ftb : Ftb
  alerts : List AlertEntry
  panels : Table (Option Panel)
  atu : Atu
  ptr : Ptr
  agu : Agu
  cst : Cst
  dou : Dou
  stu : Stu
  deriving DecidableEq, Repr

/-- Why the part stops. -/
inductive Fault where
  /-- Raised by PAINTER_TAKE when the slot at the head of the field queue is FREE.  R144 says that this never comes about and
  gives a take of it no effect.  Safe: no run from reset reaches it (R139; log entry 19, DESIGN CHOICE). -/
  | freeSlotQueued
  deriving DecidableEq, Repr

/-- Why a command has no meaning. -/
inductive Refusal where
  /-- Raised by an arm of `exec` whose command has no meaning yet; no arm does.  Safe: it stops. -/
  | notModelled (mnemonic : String)
  deriving DecidableEq, Repr

/-- The part held in power-on reset, RESET low (R192, Table 11-4), with no command waiting; a run goes on from here with
RESET_RELEASE (log entry 9, DESIGN CHOICE, safe).  The unit address is sampled only at
the release of RESET (R191); until then it stands at 0, which nothing reads (log entry 4, DESIGN CHOICE, unsafe). -/
def State.reset : State :=
  { pending := []
    resetLow := true
    lki := { rx := .settle, selection := .deaf, inbound := [], gapPending := false, assembler := .waitCode, held := none
             replyOwed := false, replies := [], tx := .released, replyHigh := 0, replyGap := 4, unitAddress := 0 }
    mdc := .idle
    ftb := { slots := [], chains := [], claims := [], liveCount := 0, retiringCount := 0, freeCount := 1024 }
    alerts := []
    panels := []
    atu := { attrs := [], bankA := [], bankB := [] }
    ptr := { queue := [], painter := .idle }
    agu := { owed := 0, flashFrames := 30, alertFrames := 90, threshold := 64 }
    cst := { cells := [], mark := .mdc }
    dou := { shown := 0, pendingPage := none, pattern := false, pendingPattern := none, blink := 0, glyphs := []
             frameAttrs := [], frameGlyphs := [], nextRow := none, rowCells := [], video := .steady VideoPins.quiet }
    stu := { sticky := 0, flagEnables := 0, alertEnable := false } }

end Sys2Proof.Machine
end

