-- ==== Sys2Proof/Machine/Operands.lean ====
section
/-!
DEFINITION. The operand forms of the messages: how the parameter bytes of Table 1-9 are read, how reply bytes are written, the
codings of Table 1-8 and the codes and lengths of the 27 commands.
-/

namespace Sys2Proof.Machine

/-! ## Reading parameters (R20: most significant byte first, signed values in two's complement) -/

/-- The one-byte parameter at offset `i`. -/
def u8 (p : List Byte) (i : Nat) : Nat := (p.getD i 0).toNat

/-- The two-byte quantity at offset `i`. -/
def u16 (p : List Byte) (i : Nat) : Nat := u8 p i * 256 + u8 p (i + 1)

/-- The three-byte quantity at offset `i`, an instrument code. -/
def u24 (p : List Byte) (i : Nat) : Nat := u16 p i * 256 + u8 p (i + 2)

/-- The four-byte quantity at offset `i`. -/
def u32 (p : List Byte) (i : Nat) : Nat := u24 p i * 256 + u8 p (i + 3)

/-- The four-byte signed value at offset `i`: 80000000h reads as −2,147,483,648 (R20). -/
def s32 (p : List Byte) (i : Nat) : Int :=
  if u32 p i < 2147483648 then (u32 p i : Int) else (u32 p i : Int) - 4294967296

/-! ## Writing reply fields (R20) -/

def byte (n : Nat) : Byte := BitVec.ofNat 8 n

def bytes16 (n : Nat) : List Byte := [byte (n / 256), byte n]

def bytes24 (n : Nat) : List Byte := [byte (n / 65536), byte (n / 256), byte n]

/-- A signed value as 4 bytes of two's complement. -/
def bytesS32 (v : Int) : List Byte :=
  let n := (v % 4294967296).toNat
  [byte (n / 16777216), byte (n / 65536), byte (n / 256), byte n]

/-- An optional value: 4 zero bytes when absent (Table 1-8). -/
def bytesOpt (v : Option Int) : List Byte := bytesS32 (v.getD 0)

def flagByte (b : Bool) : Byte := if b then 1 else 0

/-! ## Coded bytes (Table 1-8) -/

def Kind.number : Kind → Nat
  | .bid => 0 | .ask => 1 | .last => 2 | .size => 3 | .net => 4 | .high => 5 | .low => 6

def Kind.ofNumber : Nat → Option Kind
  | 0 => some .bid | 1 => some .ask | 2 => some .last | 3 => some .size | 4 => some .net | 5 => some .high | 6 => some .low
  | _ => none

/-- Kinds 0 to 3 take their values from TICK and QTICK (R24). -/
def Kind.tickable (k : Kind) : Bool := k.number < 4

def FormatMode.number : FormatMode → Nat
  | .dec => 0 | .frac => 1 | .count => 2

def FormatMode.ofNumber : Nat → Option FormatMode
  | 0 => some .dec | 1 => some .frac | 2 => some .count | _ => none

def BandMode.number : BandMode → Nat
  | .off => 0 | .inside => 1 | .outside => 2

def BandMode.ofNumber : Nat → Option BandMode
  | 0 => some .off | 1 => some .inside | 2 => some .outside | _ => none

def BandState.number : BandState → Nat
  | .unset => 0 | .below => 1 | .within => 2 | .above => 3

def Direction.number : Direction → Nat
  | .unset => 0 | .first => 1 | .up => 2 | .down => 3 | .same => 4

def HighlightKind.number : HighlightKind → Nat
  | .off => 0 | .tick => 1 | .alert => 2

def SlotState.number : SlotState → Nat
  | .free => 0 | .live => 1 | .retiring => 2

def Bank.ofNumber : Nat → Option Bank
  | 0 => some .a | 1 => some .b | _ => none

/-- The outcome of a tick (R82). -/
inductive TickOutcome where
  | noRecord | accepted | confirmed | capped | held
  deriving DecidableEq, Repr

def TickOutcome.number : TickOutcome → Nat
  | .noRecord => 0 | .accepted => 1 | .confirmed => 2 | .capped => 3 | .held => 4

/-- The reason byte of R10. -/
def DiscardReason.byte : DiscardReason → Byte
  | .line => 0x01 | .overrun => 0x02 | .check => 0x03

/-- The source precision range of each mode (R51): DEC 0..6, FRAC 1..8, COUNT 0. -/
def sourceOk : FormatMode → Nat → Bool
  | .dec, n => n ≤ 6
  | .frac, n => 1 ≤ n && n ≤ 8
  | .count, n => n = 0

/-- The format descriptor at offset `i`, checked and stored as R51 gives: a display precision above the source precision is
clamped to it; `none` is a BADARG. -/
def formatAt (p : List Byte) (i : Nat) : Option Format :=
  match FormatMode.ofNumber (u8 p i) with
  | none => none
  | some mode =>
    if sourceOk mode (u8 p (i + 1)) && u8 p (i + 3) < 16 then
      some { mode := mode, source := u8 p (i + 1), display := min (u8 p (i + 2)) (u8 p (i + 1))
             signAlways := (p.getD (i + 3) 0).getLsbD 0, fillZero := (p.getD (i + 3) 0).getLsbD 1
             degrade := (p.getD (i + 3) 0).getLsbD 2, digits := (p.getD (i + 3) 0).getLsbD 3 }
    else none

/-- The format descriptor as 4 bytes, with the display precision as stored (R45). -/
def Format.bytes (f : Format) : List Byte :=
  [byte f.mode.number, byte f.source, byte f.display,
   byte ((if f.signAlways then 1 else 0) + (if f.fillZero then 2 else 0) + (if f.degrade then 4 else 0)
     + (if f.digits then 8 else 0))]

/-- An instrument code in its range (R24). -/
def instrumentOk (n : Nat) : Bool := 1 ≤ n && n ≤ 1048575

/-! ## Result codes (Table 1-10) -/

inductive Result where
  | ok | unknown | badLen | badArg | badBand | noSlot | mirrors | outside | collide | noPanel | inUse | notFrozen | notLive
  | notFound | derived | discarded
  deriving DecidableEq, Repr

def Result.code : Result → Byte
  | .ok => 0x00 | .unknown => 0x01 | .badLen => 0x02 | .badArg => 0x03 | .badBand => 0x04 | .noSlot => 0x05
  | .mirrors => 0x06 | .outside => 0x07 | .collide => 0x08 | .noPanel => 0x09 | .inUse => 0x0A | .notFrozen => 0x0B
  | .notLive => 0x0C | .notFound => 0x0D | .derived => 0x0E | .discarded => 0x0F

/-! ## The commands of Table 1-9 -/

/-- The 27 commands a message can name. -/
inductive Command where
  | bind | amend | retire | lookup | probe
  | tick | qtick | refer | extremesClear | stale | alerts
  | panelOpen | panelClose | panelFreeze | panelThaw | panelMove
  | attrSet | schemeSet | schemeSwap
  | text | fill | showPage | pattern | glyphLoad
  | status | config | sync
  deriving DecidableEq, Repr

def Command.code : Command → Byte
  | .bind => 0x10 | .amend => 0x11 | .retire => 0x12 | .lookup => 0x13 | .probe => 0x14
  | .tick => 0x20 | .qtick => 0x21 | .refer => 0x22 | .extremesClear => 0x23 | .stale => 0x24 | .alerts => 0x25
  | .panelOpen => 0x30 | .panelClose => 0x31 | .panelFreeze => 0x32 | .panelThaw => 0x33 | .panelMove => 0x34
  | .attrSet => 0x40 | .schemeSet => 0x41 | .schemeSwap => 0x42
  | .text => 0x50 | .fill => 0x51 | .showPage => 0x60 | .pattern => 0x61 | .glyphLoad => 0x62
  | .status => 0x70 | .config => 0x71 | .sync => 0x72

/-- Every command, in the order of their codes. -/
def allCommands : List Command :=
  [.bind, .amend, .retire, .lookup, .probe, .tick, .qtick, .refer, .extremesClear, .stale, .alerts, .panelOpen, .panelClose,
   .panelFreeze, .panelThaw, .panelMove, .attrSet, .schemeSet, .schemeSwap, .text, .fill, .showPage, .pattern, .glyphLoad,
   .status, .config, .sync]

/-- A code that names a command of Table 1-9 (R13). -/
def knownCode (b : Byte) : Bool := allCommands.any (fun c => c.code == b)

/-- The parameter lengths L that Table 1-9 allows; for QTICK the count byte must agree with the length. -/
def Command.lengthOk (c : Command) (p : List Byte) : Bool :=
  match c with
  | .bind => p.length = 25
  | .amend => p.length = 19
  | .retire => p.length = 2
  | .lookup => p.length = 4
  | .probe => p.length = 2
  | .tick => p.length = 8
  | .qtick => [9, 13, 17, 21].contains p.length && u8 p 4 = (p.length - 5) / 4
  | .refer => p.length = 8
  | .extremesClear => p.length = 3
  | .stale => p.length = 3
  | .alerts => p.length = 1
  | .panelOpen => p.length = 7
  | .panelClose => p.length = 1
  | .panelFreeze => p.length = 1
  | .panelThaw => p.length = 1
  | .panelMove => p.length = 4
  | .attrSet => p.length = 4
  | .schemeSet => p.length = 3
  | .schemeSwap => p.length = 0
  | .text => 6 ≤ p.length && p.length ≤ 59
  | .fill => p.length = 8
  | .showPage => p.length = 1
  | .pattern => p.length = 1
  | .glyphLoad => p.length = 15
  | .status => p.length = 1
  | .config => p.length = 7
  | .sync => p.length = 0

/-! ## Characters on the lines (Table 1-1) -/

/-- The number of ones among the data bits of a character. -/
def onesOf (v : Byte) : Nat := ((List.range 8).filter (fun i => v.getLsbD i)).length

/-- The line levels of one character of a reply, one a bit time: start low, the data bits least significant first, mark 0, the
parity that makes the number of ones even, stop high (Table 1-1, R15). -/
def replyCharacter (v : Byte) : List Bool :=
  [false] ++ (List.range 8).map (fun i => v.getLsbD i) ++ [false, onesOf v % 2 = 1, true]

/-- The line levels of a whole reply: its characters with no idle time between them (R16). -/
def replyLevels (chars : List Byte) : List Bool := chars.flatMap replyCharacter

/-- The characters of a reply (R15): the echoed code, the result code, the length byte, the data and the check byte that makes
them all sum to 0 modulo 256. -/
def replyOf (code : Byte) (r : Result) (data : List Byte) : List Byte :=
  let body := [code, r.code, byte data.length] ++ data
  body ++ [0 - body.sum]

end Sys2Proof.Machine
end

