-- ==== Sys2Proof/Machine/Flags.lean ====
section
/-!
DEFINITION. Every flag computation of the manual: the error flags of a received character (R1), the sticky flags (Table 11-1),
the NOTICE line (R186) and the record flag bytes of LOOKUP and PROBE (Table 1-8).
-/

namespace Sys2Proof.Machine

/-- The parity-error flag of a received character: data, mark and parity hold an odd number of ones (R1). -/
def parityErrorOf (value : Byte) (mark parity : Bool) : Bool :=
  (onesOf value + (if mark then 1 else 0) + (if parity then 1 else 0)) % 2 = 1

/-- The framing-error flag: the stop bit is sampled low (R1). -/
def framingErrorOf (stop : Bool) : Bool := !stop

/-- The sticky flags of Table 11-1. -/
inductive StickyFlag where
  | overrun | line | check | form | truncated | held | alertLost | agingSlipped
  deriving DecidableEq, Repr

/-- The bit of the sticky flag byte that stands for a flag (Table 11-1). -/
def StickyFlag.mask : StickyFlag → Byte
  | .overrun => 0x01 | .line => 0x02 | .check => 0x04 | .form => 0x08 | .truncated => 0x10 | .held => 0x20
  | .alertLost => 0x40 | .agingSlipped => 0x80

/-- A sticky flag is raised; a flag already set stays set (R185). -/
def State.raise (s : State) (f : StickyFlag) : State :=
  { s with stu := { s.stu with sticky := s.stu.sticky ||| f.mask } }

/-- The NOTICE line is asserted, the open-drain output driven low, when a set sticky flag has its notice enable set or the alert
notice is enabled and the alert list holds an entry (R186).  The line follows its inputs at once, so it is read from them (log entry 13,
DEDUCED, safe). -/
def State.noticeAsserted (s : State) : Bool :=
  s.stu.sticky &&& s.stu.flagEnables != 0 || s.stu.alertEnable && !s.alerts.isEmpty

/-- The reason's sticky flag (R10). -/
def DiscardReason.flag : DiscardReason → StickyFlag
  | .overrun => .overrun | .line => .line | .check => .check

/-- Record flags A (Table 1-8). -/
def flagsA (r : Record) : Byte :=
  byte ((if r.current.isSome then 1 else 0) + (if r.previous.isSome then 2 else 0)
    + (if r.suspectValue.isSome then 4 else 0) + (if r.stale then 8 else 0) + (if r.suspect then 16 else 0)
    + (if r.alert then 32 else 0))

/-- Record flags B (Table 1-8). -/
def flagsB (r : Record) : Byte :=
  byte ((if r.reference.isSome then 1 else 0) + (if r.lastOperand.isSome then 2 else 0) + (if r.newValue then 4 else 0)
    + (if r.queued then 8 else 0) + (if r.due then 16 else 0) + (if r.image.isSome then 32 else 0))

end Sys2Proof.Machine
end

