-- ==== Sys2Proof/Machine/Ops.lean ====
section
/-!
DEFINITION. The named operations the meanings are built from: reading and writing slots, chains, claims, cells, panels and
banks; a record becoming due (R140, R141); MDC's take of a held message and the end of an execution (R12 to R15); the
cell-write arbiter (R155, R156).
-/

namespace Sys2Proof.Machine

/-- What a step of the part answers: every step that can come about, and every step whose condition does not hold, goes on. -/
abbrev Step := Host.Outcome State Fault Refusal

/-! ## Slots (R22, R23) -/

/-- The record positions, ascending. -/
def allSlots : List Nat := List.range 1024

/-- The record in a slot. -/
def State.slot (s : State) (k : Nat) : Record := Table.get Record.empty s.ftb.slots k

def State.setSlot (s : State) (k : Nat) (r : Record) : State :=
  { s with ftb := { s.ftb with slots := Table.set Record.empty s.ftb.slots k r } }

/-- The record in slot `k` changed by `f`. -/
def State.updSlot (s : State) (k : Nat) (f : Record → Record) : State := s.setSlot k (f (s.slot k))

def State.isLive (s : State) (k : Nat) : Bool := (s.slot k).state == .live

/-- The lowest-numbered FREE slot (R54). -/
def State.lowestFree (s : State) : Option Nat := allSlots.find? (fun k => (s.slot k).state == .free)

/-- The LIVE records of a panel, in ascending slot order (R115). -/
def State.panelRecords (s : State) (p : Nat) : List Nat :=
  allSlots.filter (fun k => s.isLive k && (s.slot k).panel == p)

/-! ## The Key Index (R34 to R38) -/

/-- The bucket of a key (R34). -/
def bucketOf (instrument : Nat) (kind : Kind) : Nat :=
  (instrument % 256 + instrument / 256 % 256 + instrument / 65536 + kind.number) % 256

def State.chain (s : State) (b : Nat) : List Nat := Table.get [] s.ftb.chains b

def State.setChain (s : State) (b : Nat) (c : List Nat) : State :=
  { s with ftb := { s.ftb with chains := Table.set [] s.ftb.chains b c } }

/-- The mirrors of a key: its LIVE records, in chain order (R38, R70). -/
def State.mirrors (s : State) (instrument : Nat) (kind : Kind) : List Nat :=
  (s.chain (bucketOf instrument kind)).filter (fun k =>
    s.isLive k && (s.slot k).instrument == instrument && (s.slot k).kind == kind)

/-- The lead of a key: its first LIVE record in the chain (R38). -/
def State.lead (s : State) (instrument : Nat) (kind : Kind) : Option Nat := (s.mirrors instrument kind).head?

/-- The chain link of a slot (Table 2-2): the slot after it in the chain of its key, or none.  A view of the chains. -/
def State.chainLink (s : State) (k : Nat) : Option Nat :=
  (((s.chain (bucketOf (s.slot k).instrument (s.slot k).kind)).dropWhile (· != k)).drop 1).head?

/-! ## Cells and claims (R47, R172) -/

/-- The number of the cell (page, row, column). -/
def cellNumber (page row col : Nat) : Nat := (page * 50 + row) * 132 + col

/-- The cells of a span of `w` cells from (page, row, column) rightward (R25). -/
def spanCells (page row col w : Nat) : List Nat := (List.range w).map (fun i => cellNumber page row (col + i))

/-- The cells of a record's span, from its resolved anchor. -/
def Record.span (r : Record) : List Nat := spanCells r.page r.row r.col r.width

/-- The Claim Map entry of a cell. -/
def State.claim (s : State) (c : Nat) : Option Nat := Table.get none s.ftb.claims c

def State.setClaim (s : State) (c : Nat) (owner : Option Nat) : State :=
  { s with ftb := { s.ftb with claims := Table.set none s.ftb.claims c owner } }

/-- Slot `k` claims each of the cells, whoever claimed them before (R49, R55). -/
def State.claimAll (s : State) (k : Nat) (cells : List Nat) : State :=
  cells.foldl (fun t c => t.setClaim c (some k)) s

def State.cell (s : State) (c : Nat) : Cell := Table.get Cell.blank s.cst.cells c

/-- A carried-out write replaces the character and the attribute index of its cell together (R172). -/
def State.writeCell (s : State) (w : CellWrite) : State :=
  { s with cst := { s.cst with cells := Table.set Cell.blank s.cst.cells w.cell { char := w.char, attr := w.attr } } }

/-! ## Panels, attributes and scheme banks -/

/-- The panel entry; `none` is CLOSED. -/
def State.panel (s : State) (p : Nat) : Option Panel := Table.get none s.panels p

def State.setPanel (s : State) (p : Nat) (e : Option Panel) : State := { s with panels := Table.set none s.panels p e }

def State.isFrozen (s : State) (p : Nat) : Bool :=
  match s.panel p with
  | some e => e.frozen
  | none => false

def State.attr (s : State) (i : Nat) : Attr := Table.get Attr.initial s.atu.attrs i

/-- The attribute index to which a bank maps a condition, by its number (R127). -/
def State.scheme (s : State) (bank : Bank) (condition : Nat) : Nat :=
  match bank with
  | .a => Table.get 0 s.atu.bankA condition
  | .b => Table.get 0 s.atu.bankB condition

/-- The index to which bank A maps CLEARED, condition 15 (R128). -/
def State.cleared (s : State) : Nat := s.scheme .a 15

def State.glyph (s : State) (code : Nat) : List Byte := Table.get blankGlyph s.dou.glyphs code

/-! ## Becoming due (R140, R141) -/

/-- The slot joins the tail of the field queue. -/
def State.enqueue (s : State) (k : Nat) : State :=
  let t := s.updSlot k (fun r => { r with queued := true })
  { t with ptr := { t.ptr with queue := t.ptr.queue ++ [k] } }

/-- A record becomes due (R140): a queued one keeps its place; a LIVE one of a FROZEN panel has its due flag set; any other
joins the tail. -/
def State.becomeDue (s : State) (k : Nat) : State :=
  if (s.slot k).queued then s
  else if s.isLive k && s.isFrozen (s.slot k).panel then s.updSlot k (fun r => { r with due := true })
  else s.enqueue k

/-- The records one command or sweep makes due join as one group, in ascending slot order, each once (R141). -/
def State.joinGroup (s : State) (due : List Nat) : State :=
  (allSlots.filter (fun k => due.contains k)).foldl State.becomeDue s

/-! ## MDC: taking a message and ending its execution (R12 to R15) -/

/-- What the body of a command answers once its length has been accepted (R13, R14).  `refuse`: a check failed, and nothing has
changed.  `done t data`: carried out, the execution ends.  `goesOn t`: carried out, the execution ends at a later event. -/
inductive Verdict where
  | refuse (r : Result)
  | done (t : State) (data : List Byte)
  | goesOn (t : State)
  deriving DecidableEq, Repr

/-- MDC may take a held item with this reply flag: it is IDLE, and the flag is clear or the reply queue has room (R12). -/
def State.mayTake (s : State) (reply : Bool) : Bool :=
  !s.resetLow && s.mdc == .idle && (!reply || s.lki.replies.length < 4)

/-- The take itself: LKI's hold is released and the reply flag becomes the reply-owed mark (R12). -/
def State.takeHeld (s : State) (reply : Bool) : State :=
  { s with lki := { s.lki with held := none, replyOwed := reply } }

/-- The end of an execution: MDC becomes IDLE, and when a reply is owed it joins the tail of the reply queue and the mark is
cleared (R14, R15). -/
def State.endExecution (s : State) (code : Byte) (r : Result) (data : List Byte) : State :=
  { s with
    mdc := .idle
    lki := { s.lki with
      replyOwed := false
      replies := if s.lki.replyOwed then s.lki.replies ++ [replyOf code r data] else s.lki.replies } }

/-- MDC's step for one command (R12, R13): when it may take a held message with the command's code, it takes it, checks its
length, and lets the command's body decide.  In every other state the step does not come about and nothing changes (log
entry 1, DESIGN CHOICE, safe). -/
def runCommand (c : Command) (body : Message → State → Verdict) (s : State) : State :=
  match s.lki.held with
  | some (.message m reply) =>
    if s.mayTake reply && m.code == c.code then
      let t := s.takeHeld reply
      if c.lengthOk m.params then
        match body m t with
        | .refuse r => t.endExecution m.code r []
        | .done u data => u.endExecution m.code .ok data
        | .goesOn u => u
      else t.endExecution m.code .badLen []
    else s
  | _ => s

/-! ## The cell-write arbiter (R155, R156)

A grant and the write it carries out are one step, so the port is free at every step (log entry 12, DEDUCED, safe). -/

/-- The write the Painter has pending: the first of its job's writes. -/
def State.ptrPending (s : State) : Option CellWrite :=
  match s.ptr.painter with
  | .idle => none
  | .painting _ _ _ _ ws => ws.head?
  | .clearing _ ws => ws.head?

/-- The write MDC has pending: the first of its TEXT, FILL or vacating writes. -/
def State.mdcPending (s : State) : Option CellWrite :=
  match s.mdc with
  | .idle => none
  | .writing _ ws => ws.head?
  | .moving _ _ _ _ ws _ => ws.head?
  | .syncing _ _ _ => none

/-- The arbiter gives the port to the Painter's pending write: MDC has none pending, or the mark names MDC (R156). -/
def State.grantsPtr (s : State) : Bool := !s.resetLow && (s.mdcPending.isNone || s.cst.mark == .mdc)

/-- The arbiter gives the port to MDC's pending write: the Painter has none pending, or the mark names the Painter (R156). -/
def State.grantsMdc (s : State) : Bool := !s.resetLow && (s.ptrPending.isNone || s.cst.mark == .ptr)

def State.setMark (s : State) (q : Requester) : State := { s with cst := { s.cst with mark := q } }

/-! ## The SYNC fence (R158) -/

/-- The end of a job of `slot` shrinks the fence of a SYNC in execution: the job that was in hand at the SYNC's take leaves it
first, a job taken from a fence slot's entry removes that slot, and an empty fence ends the SYNC (R158). -/
def State.jobEnded (s : State) (slot : Nat) : State :=
  match s.mdc with
  | .syncing m job slots =>
    let rest := if job then slots else slots.filter (· != slot)
    if rest.isEmpty then s.endExecution m.code .ok []
    else { s with mdc := .syncing m false rest }
  | _ => s

end Sys2Proof.Machine
end

