-- ==== Sys2Proof/Machine/Aging.lean ====
section
/-!
DEFINITION. The Aging Unit's sweep (chapter 9).
-/

namespace Sys2Proof.Machine

/-- MDC executes a PANEL_MOVE. -/
def State.moving (s : State) : Bool :=
  match s.mdc with
  | .moving _ _ _ _ _ _ => true
  | _ => false

/-- The sweep decision (R164, Table 9-2), and no sweep within a PANEL_MOVE. -/
def State.sweepDue (s : State) : Bool :=
  0 < s.agu.owed && (s.ptr.queue.length ≤ s.agu.threshold || s.agu.owed = 8) && !s.moving

/-- A running highlight aged by `n` frames: one whose age reaches 0 ends (R165, R32). -/
def Record.aged (r : Record) (n : Nat) : Record :=
  if r.age = 0 then r
  else if r.age ≤ n then { r with highlight := .off, age := 0, mask := [] }
  else { r with age := r.age - n }

/-- The slots whose highlight a sweep of `n` frames ends, ascending (R165). -/
def State.sweepEnds (s : State) (n : Nat) : List Nat :=
  allSlots.filter (fun k => 0 < (s.slot k).age && (s.slot k).age ≤ n)

/-- Every running highlight aged by the frames owed, and the owed count 0 (R165). -/
def State.ageAll (s : State) : State :=
  let t := (allSlots.filter (fun k => 0 < (s.slot k).age)).foldl
    (fun t k => t.updSlot k (fun r => r.aged s.agu.owed)) s
  { t with agu := { t.agu with owed := 0 } }

/-- SWEEP (R164, R165): one step; the records whose highlights ended join the queue as one group, after all ages are lowered. -/
def execSweep (s : State) : Step :=
  if !s.resetLow && s.sweepDue then .next (s.ageAll.joinGroup (s.sweepEnds s.agu.owed)) else .next s

end Sys2Proof.Machine
end

