-- ==== Sys2Proof/Machine/Attributes.lean ====
section
/-!
DEFINITION. The Attribute Unit's commands (chapter 7): ATTR_SET, SCHEME_SET and SCHEME_SWAP.
-/

namespace Sys2Proof.Machine

/-! ## ATTR_SET (R125) -/

def attrSetBody (m : Message) (s : State) : Verdict :=
  let p := m.params
  if 63 < u8 p 0 then .refuse .badArg
  else if 15 < u8 p 1 then .refuse .badArg
  else if 15 < u8 p 2 then .refuse .badArg
  else if 15 < u8 p 3 then .refuse .badArg
  else
    let style := p.getD 3 0
    let a : Attr := { foreground := BitVec.ofNat 4 (u8 p 1), background := BitVec.ofNat 4 (u8 p 2)
                      bold := style.getLsbD 0, underline := style.getLsbD 1, reverse := style.getLsbD 2
                      blink := style.getLsbD 3 }
    .done { s with atu := { s.atu with attrs := Table.set Attr.initial s.atu.attrs (u8 p 0) a } } []

/-- ATTR_SET (R125). -/
def execAttrSet (s : State) : Step := .next (runCommand .attrSet attrSetBody s)

/-! ## SCHEME_SET and SCHEME_SWAP (R136, R137) -/

def State.setScheme (s : State) (bank : Bank) (condition index : Nat) : State :=
  match bank with
  | .a => { s with atu := { s.atu with bankA := Table.set 0 s.atu.bankA condition index } }
  | .b => { s with atu := { s.atu with bankB := Table.set 0 s.atu.bankB condition index } }

/-- The panel names the bank: it is OPEN or FROZEN with that bank (R123). -/
def State.panelNames (s : State) (p : Nat) (bank : Bank) : Bool :=
  match s.panel p with
  | some e => e.bank == bank
  | none => false

/-- The LIVE records whose panel names the bank (R136). -/
def State.bankRecords (s : State) (bank : Bank) : List Nat :=
  allSlots.filter (fun k => s.isLive k && s.panelNames (s.slot k).panel bank)

def schemeSetBody (m : Message) (s : State) : Verdict :=
  let p := m.params
  match Bank.ofNumber (u8 p 0) with
  | none => .refuse .badArg
  | some bank =>
    if 15 < u8 p 1 then .refuse .badArg
    else if 63 < u8 p 2 then .refuse .badArg
    else .done ((s.setScheme bank (u8 p 1) (u8 p 2)).joinGroup (s.bankRecords bank)) []

/-- SCHEME_SET (R136). -/
def execSchemeSet (s : State) : Step := .next (runCommand .schemeSet schemeSetBody s)

/-- The LIVE records of every panel (R137). -/
def State.liveRecords (s : State) : List Nat := allSlots.filter (fun k => s.isLive k)

/-- The two banks exchanged whole (R137). -/
def State.swapBanks (s : State) : State :=
  { s with atu := { s.atu with bankA := s.atu.bankB, bankB := s.atu.bankA } }

def schemeSwapBody (_m : Message) (s : State) : Verdict := .done (s.swapBanks.joinGroup s.liveRecords) []

/-- SCHEME_SWAP (R137). -/
def execSchemeSwap (s : State) : Step := .next (runCommand .schemeSwap schemeSwapBody s)

end Sys2Proof.Machine
end

