-- ==== Sys2Proof/Machine/Tev.lean ====
section
/-!
DEFINITION. The Tick Evaluator (chapter 4): band evaluation and the alert list, the guard, the application of a value, the
fan-out, and the commands TICK, QTICK, REFER, EXTREMES_CLEAR, STALE and ALERTS.
-/

namespace Sys2Proof.Machine

/-! ## Band evaluation (R86 to R88) and the alert list (R89, R90) -/

/-- The band state of a value against a band (R86). -/
def bandStateOf (mode : BandMode) (lo hi : Int) (current : Option Int) : BandState :=
  match mode, current with
  | .off, _ => .unset
  | _, none => .unset
  | _, some v => if v < lo then .below else if hi < v then .above else .within

/-- The alert condition (R31, R86). -/
def alertCondition (mode : BandMode) (st : BandState) : Bool :=
  match mode, st with
  | .inside, .within => true
  | .outside, .below => true
  | .outside, .above => true
  | _, _ => false

/-- The record with its band state and alert flag evaluated (R86). -/
def Record.banded (r : Record) : Record :=
  let st := bandStateOf r.settings.bandMode r.settings.lo r.settings.hi r.current
  { r with band := st, alert := alertCondition r.settings.bandMode st }

/-- The entry of a slot replaced in place (R90). -/
def replaceEntry (e : AlertEntry) (es : List AlertEntry) : List AlertEntry :=
  es.map (fun x => if x.slot = e.slot then e else x)

/-- A crossing is entered in the alert list: in place, appended, or lost with ALERT_LOST (R90). -/
def State.enterAlert (s : State) (e : AlertEntry) : State :=
  if s.alerts.any (fun x => x.slot == e.slot) then { s with alerts := replaceEntry e s.alerts }
  else if s.alerts.length < 16 then { s with alerts := s.alerts ++ [e] }
  else s.raise .alertLost

/-- Band evaluation of the record in slot `k`, at every event but BIND (R86): a rise of the alert condition is a crossing, which
starts an ALERT highlight of Fa frames and enters the slot in the alert list (R87).  The record is made due by the event that
evaluates it. -/
def State.evaluateBand (s : State) (k : Nat) : State :=
  let r := s.slot k
  let b := r.banded
  if b.alert && !r.alert then
    (s.setSlot k { b with highlight := .alert, age := s.agu.alertFrames }).enterAlert
      { slot := k, instrument := b.instrument, kind := b.kind, band := b.band, value := b.current.getD 0 }
  else s.setSlot k b

/-! ## The guard (R69 to R73) -/

/-- The clamp of a tick's value (R69). -/
def clampTick (kind : Kind) (v : Int) : Int :=
  let w := max v (-2147483647)
  if kind = .size ∧ w < 0 then 0 else w

/-- The saturation of a NET value (R79). -/
def saturate (v : Int) : Int := max (-2147483647) (min v 2147483647)

/-- |a − b| ≤ f, in exact arithmetic (R71). -/
def within (a b : Int) (f : Nat) : Bool := (a - b).natAbs ≤ f

/-- The guard's verdict on `v` from the lead's record (Table 4-2). -/
def guardVerdict (lead : Record) (v : Int) : TickOutcome :=
  match lead.current with
  | none => .accepted
  | some c =>
    if lead.settings.filter = 0 || within v c lead.settings.filter then .accepted
    else
      let agrees := match lead.suspectValue with
        | some sv => within v sv lead.settings.filter
        | none => false
      if agrees then .confirmed
      else if lead.holdCount = 3 then .capped
      else .held

/-- The class of a change to `v` (R74). -/
def classOf (current : Option Int) (v : Int) : Direction :=
  match current with
  | none => .first
  | some c => if c < v then .up else if v < c then .down else .same

/-! ## Applying a value (R75, R76) -/

/-- The record with the value applied, before its band is evaluated (R75, R76). -/
def Record.applied (r : Record) (v : Int) (dir : Direction) (flashFrames : Nat) : Record :=
  let r' := { r with
    previous := if r.current.isSome then r.current else r.previous
    current := some v, direction := dir, stale := false, newValue := true }
  if r.highlight = .alert ∧ 0 < r.age then r' else { r' with highlight := .tick, age := flashFrames }

/-- An accepted value applied to the record in slot `k`, with its band evaluated (R75). -/
def State.applyValue (s : State) (k : Nat) (v : Int) (dir : Direction) : State :=
  (s.updSlot k (fun r => r.applied v dir s.agu.flashFrames)).evaluateBand k

/-- What a tick has done so far: the state, the slots it has made due and the number of records whose value it set. -/
structure TickAcc where
  state : State
  due : List Nat
  updated : Nat
  deriving DecidableEq, Repr

/-- The value applied to one record, which is counted and made due. -/
def TickAcc.apply (a : TickAcc) (k : Nat) (v : Int) (dir : Direction) : TickAcc :=
  { state := a.state.applyValue k v dir, due := a.due ++ [k], updated := a.updated + 1 }

/-- An accepted LAST value clears the stale flag of a derived record it does not change, and makes it due if it was set (R81). -/
def TickAcc.freshen (a : TickAcc) (k : Nat) : TickAcc :=
  { a with
    state := a.state.updSlot k (fun r => { r with stale := false })
    due := if (a.state.slot k).stale then a.due ++ [k] else a.due }

/-- Fan-out to one NET mirror (R79, R81). -/
def fanNet (v : Int) (a : TickAcc) (k : Nat) : TickAcc :=
  let r := a.state.slot k
  let a' := { a with state := a.state.updSlot k (fun x => { x with lastOperand := some v }) }
  match r.reference with
  | some ref => a'.apply k (saturate (v - ref)) (classOf r.current (saturate (v - ref)))
  | none => a'.freshen k

/-- Fan-out to one HIGH mirror (R80, R81). -/
def fanHigh (v : Int) (a : TickAcc) (k : Nat) : TickAcc :=
  match (a.state.slot k).current with
  | none => a.apply k v .first
  | some c => if c < v then a.apply k v .up else a.freshen k

/-- Fan-out to one LOW mirror (R80, R81). -/
def fanLow (v : Int) (a : TickAcc) (k : Nat) : TickAcc :=
  match (a.state.slot k).current with
  | none => a.apply k v .first
  | some c => if v < c then a.apply k v .down else a.freshen k

/-- Fan-out of an accepted LAST value: the NET mirrors, then HIGH, then LOW, each in chain order (R78). -/
def fanOut (s : State) (instrument : Nat) (v : Int) (a : TickAcc) : TickAcc :=
  let a := (s.mirrors instrument .net).foldl (fanNet v) a
  let a := (s.mirrors instrument .high).foldl (fanHigh v) a
  (s.mirrors instrument .low).foldl (fanLow v) a

/-! ## One tick (R70 to R82) -/

/-- The guard cleared by an accepted tick (R73): the lead's guard fields emptied, the suspect flag of every mirror cleared. -/
def State.clearGuard (s : State) (mirrors : List Nat) : State :=
  let t := match mirrors with
    | [] => s
    | lead :: _ => s.updSlot lead (fun r => { r with suspectValue := none, holdCount := 0 })
  mirrors.foldl (fun t k => t.updSlot k (fun r => { r with suspect := false })) t

/-- A HELD tick (R72): the guard state of the lead, the suspect flag of every mirror and the sticky flag HELD. -/
def State.holdPrint (s : State) (lead : Nat) (mirrors : List Nat) (v : Int) : State :=
  let t := s.updSlot lead (fun r => { r with suspectValue := some v, holdCount := r.holdCount + 1 })
  (mirrors.foldl (fun t k => t.updSlot k (fun r => { r with suspect := true })) t).raise .held

/-- An accepted tick (R73 to R75, R78): the guard is cleared, the value applied to every mirror, and a LAST value fanned out. -/
def acceptTick (a : TickAcc) (instrument : Nat) (kind : Kind) (v : Int) (dir : Direction) : TickAcc :=
  let s := a.state
  let mirrors := s.mirrors instrument kind
  let a := { a with state := s.clearGuard mirrors }
  let a := mirrors.foldl (fun a k => a.apply k v dir) a
  if kind = .last then fanOut s instrument v a else a

/-- The instrument has a LIVE derived record (R70). -/
def State.hasDerived (s : State) (instrument : Nat) : Bool :=
  [Kind.net, .high, .low].any (fun k => !(s.mirrors instrument k).isEmpty)

/-- One tick: its outcome and what it has done (R69 to R82). -/
def evaluateTick (a : TickAcc) (instrument : Nat) (kind : Kind) (value : Int) : TickOutcome × TickAcc :=
  let s := a.state
  let v := clampTick kind value
  let a := { a with updated := 0 }
  match s.mirrors instrument kind with
  | [] =>
    if kind = .last ∧ s.hasDerived instrument then (.accepted, acceptTick a instrument kind v .first)
    else (.noRecord, a)
  | lead :: others =>
    match guardVerdict (s.slot lead) v with
    | .held => (.held, { a with state := s.holdPrint lead (lead :: others) v, due := a.due ++ lead :: others })
    | o => (o, acceptTick a instrument kind v (classOf (s.slot lead).current v))

/-- The pair of reply bytes of a tick: outcome and records updated (R82). -/
def outcomeBytes (o : TickOutcome) (updated : Nat) : List Byte := [byte o.number, byte updated]

/-! ## TICK and QTICK (R67, R68) -/

def tickBody (m : Message) (s : State) : Verdict :=
  let p := m.params
  if !instrumentOk (u24 p 0) then .refuse .badArg
  else
    match Kind.ofNumber (u8 p 3) with
    | none => .refuse .badArg
    | some kind =>
      if !kind.tickable then .refuse .derived
      else
        let (o, a) := evaluateTick { state := s, due := [], updated := 0 } (u24 p 0) kind (s32 p 4)
        .done (a.state.joinGroup a.due) (outcomeBytes o a.updated)

/-- TICK (R67). -/
def execTick (s : State) : Step := .next (runCommand .tick tickBody s)

/-- The ticks of a QTICK one after the other, each evaluated whole before the next begins, with their reply bytes (R68). -/
def evaluateTicks (instrument : Nat) : List (Kind × Int) → TickAcc → List Byte → TickAcc × List Byte
  | [], a, out => (a, out)
  | (kind, v) :: rest, a, out =>
    let (o, a) := evaluateTick a instrument kind v
    evaluateTicks instrument rest a (out ++ outcomeBytes o a.updated)

/-- The values of a QTICK with their kinds, in ascending kind order (R68). -/
def qtickValues (p : List Byte) : List (Kind × Int) :=
  (List.range (u8 p 4)).filterMap (fun i =>
    (Kind.ofNumber (u8 p 3 + i)).map (fun k => (k, s32 p (5 + 4 * i))))

def qtickBody (m : Message) (s : State) : Verdict :=
  let p := m.params
  if !instrumentOk (u24 p 0) then .refuse .badArg
  else if 6 < u8 p 3 then .refuse .badArg
  else if 4 < u8 p 3 + u8 p 4 then .refuse .badArg
  else
    let (a, out) := evaluateTicks (u24 p 0) (qtickValues p) { state := s, due := [], updated := 0 } []
    .done (a.state.joinGroup a.due) out

/-- QTICK (R68). -/
def execQtick (s : State) : Step := .next (runCommand .qtick qtickBody s)

/-! ## REFER, EXTREMES_CLEAR and STALE (R83 to R85) -/

/-- A TICK highlight is ended and an ALERT highlight kept (R83, R84). -/
def Record.endTick (r : Record) : Record :=
  if r.highlight = .tick then { r with highlight := .off, age := 0, mask := [] } else r

/-- The value of a NET record from its operands (R29, R83). -/
def netValue (reference last : Option Int) : Option Int :=
  match reference, last with
  | some r, some l => some (saturate (l - r))
  | _, _ => none

/-- REFER on one NET record, before its band is evaluated (R83 steps 1 to 5). -/
def Record.referred (r : Record) (reference : Option Int) : Record :=
  let v := netValue reference r.lastOperand
  let r' := { r with reference := reference }
  let r' := if r.current.isNone && v.isNone then r'
    else { r' with previous := if r.current.isSome then r.current else r.previous, current := v, newValue := true }
  let r' := { r' with direction := if v.isSome then .first else .unset }
  r'.endTick

def State.referSlot (reference : Option Int) (s : State) (k : Nat) : State :=
  (s.updSlot k (fun r => r.referred reference)).evaluateBand k

def referBody (m : Message) (s : State) : Verdict :=
  let p := m.params
  if !instrumentOk (u24 p 0) then .refuse .badArg
  else if 1 < u8 p 3 then .refuse .badArg
  else
    let reference := if u8 p 3 = 1 then some (max (s32 p 4) (-2147483647)) else none
    let nets := s.mirrors (u24 p 0) .net
    .done ((nets.foldl (State.referSlot reference) s).joinGroup nets) []

/-- REFER (R83). -/
def execRefer (s : State) : Step := .next (runCommand .refer referBody s)

/-- The restart value of EXTREMES_CLEAR: the LAST lead's current value (R84). -/
def State.restartValue (s : State) (instrument : Nat) : Option Int :=
  match s.lead instrument .last with
  | some l => (s.slot l).current
  | none => none

/-- EXTREMES_CLEAR on one HIGH or LOW record, before its band is evaluated (R84 steps 1 to 4). -/
def Record.restarted (r : Record) (v : Option Int) : Record :=
  let r' := { r with
    current := v
    direction := if v.isSome then .first else .unset
    previous := none
    newValue := if r.current.isNone && v.isNone then r.newValue else true }
  r'.endTick

def State.restartSlot (v : Option Int) (s : State) (k : Nat) : State :=
  (s.updSlot k (fun r => r.restarted v)).evaluateBand k

/-- EXTREMES_CLEAR's checks and effect (R84).  R84 names no order between the kinds, and R87 lists crossings in the order of evaluation:
that all HIGH mirrors come before the LOW ones, as in R78, is the model's (log entry 22, DESIGN CHOICE, unsafe for the order of the
alert list). -/
def extremesClearBody (m : Message) (s : State) : Verdict :=
  let i := u24 m.params 0
  if !instrumentOk i then .refuse .badArg
  else
    let records := s.mirrors i .high ++ s.mirrors i .low
    .done ((records.foldl (State.restartSlot (s.restartValue i)) s).joinGroup records) []

/-- EXTREMES_CLEAR (R84). -/
def execExtremesClear (s : State) : Step := .next (runCommand .extremesClear extremesClearBody s)

/-- The kinds in the order of their numbers. -/
def allKinds : List Kind := [.bid, .ask, .last, .size, .net, .high, .low]

/-- The LIVE records of an instrument, of all seven kinds (R36). -/
def State.instrumentRecords (s : State) (instrument : Nat) : List Nat :=
  allKinds.flatMap (fun k => s.mirrors instrument k)

def State.markStale (s : State) (k : Nat) : State := s.updSlot k (fun r => { r with stale := true })

def staleBody (m : Message) (s : State) : Verdict :=
  let i := u24 m.params 0
  if !instrumentOk i then .refuse .badArg
  else
    let records := s.instrumentRecords i
    .done ((records.foldl State.markStale s).joinGroup records) []

/-- STALE (R85). -/
def execStale (s : State) : Step := .next (runCommand .stale staleBody s)

/-! ## ALERTS (R91) -/

/-- An alert-list entry as 11 reply bytes (Table 1-9). -/
def AlertEntry.bytes (e : AlertEntry) : List Byte :=
  bytes16 e.slot ++ bytes24 e.instrument ++ [byte e.kind.number, byte e.band.number] ++ bytesS32 e.value

def alertsBody (m : Message) (s : State) : Verdict :=
  let n := u8 m.params 0
  if n < 1 ∨ 8 < n then .refuse .badArg
  else
    let taken := s.alerts.take n
    .done { s with alerts := s.alerts.drop n } (byte taken.length :: taken.flatMap AlertEntry.bytes)

/-- ALERTS (R91). -/
def execAlerts (s : State) : Step := .next (runCommand .alerts alertsBody s)

end Sys2Proof.Machine
end

