-- ==== Sys2Proof/Machine/Binding.lean ====
section
/-!
DEFINITION. BIND, AMEND and RETIRE, and the retirement they share with PANEL_CLOSE (chapter 3).
-/

namespace Sys2Proof.Machine

/-! ## BIND -/

/-- The settings at offset `i` of BIND's or AMEND's parameters: format descriptor (4), band mode (1), Lo (4), Hi (4), filter limit
(4), with the checks both commands make of them in the same order (R50 rows 5 to 8, R60 checks 2 to 5). -/
def settingsAt (p : List Byte) (i : Nat) : Except Result Settings :=
  match formatAt p i with
  | none => .error .badArg
  | some f =>
    match BandMode.ofNumber (u8 p (i + 4)) with
    | none => .error .badArg
    | some mode =>
      if s32 p (i + 13) < 0 then .error .badArg
      else if s32 p (i + 9) < s32 p (i + 5) then .error .badBand
      else .ok { format := f, bandMode := mode, lo := s32 p (i + 5), hi := s32 p (i + 9)
                 filter := (s32 p (i + 13)).toNat }

/-- What an accepted BIND is to do. -/
structure Binding where
  slot : Nat
  instrument : Nat
  kind : Kind
  panelNo : Nat
  panel : Panel
  rowOffset : Nat
  colOffset : Nat
  width : Nat
  settings : Settings
  deriving DecidableEq, Repr

/-- The cells of the new record's span (R25). -/
def Binding.span (b : Binding) : List Nat :=
  spanCells b.panel.page (b.panel.row + b.rowOffset) (b.panel.col + b.colOffset) b.width

/-- A cell that names a LIVE slot in the Claim Map. -/
def State.claimedLive (s : State) (c : Nat) : Bool :=
  match s.claim c with
  | some k => s.isLive k
  | none => false

/-- The placement, capacity and collision checks of BIND (Table 3-3, rows 9 to 13; R52, R53). -/
def bindPlace (s : State) (instrument : Nat) (kind : Kind) (panelNo rowOffset colOffset width : Nat) (settings : Settings) :
    Except Result Binding :=
  match s.panel panelNo with
  | none => .error .noPanel
  | some panel =>
    if panel.height ≤ rowOffset ∨ panel.width < colOffset + width then .error .outside
    else if 4 ≤ (s.mirrors instrument kind).length then .error .mirrors
    else
      match s.lowestFree with
      | none => .error .noSlot
      | some slot =>
        let b : Binding := { slot := slot, instrument := instrument, kind := kind, panelNo := panelNo, panel := panel
                             rowOffset := rowOffset, colOffset := colOffset, width := width, settings := settings }
        if b.span.any s.claimedLive then .error .collide else .ok b

/-- BIND's checks in the order of Table 3-3 (R50). -/
def bindCheck (p : List Byte) (s : State) : Except Result Binding :=
  if !instrumentOk (u24 p 0) then .error .badArg
  else
    match Kind.ofNumber (u8 p 3) with
    | none => .error .badArg
    | some kind =>
      if 31 < u8 p 4 then .error .badArg
      else if u8 p 7 < 1 ∨ 16 < u8 p 7 then .error .badArg
      else
        match settingsAt p 8 with
        | .error r => .error r
        | .ok settings => bindPlace s (u24 p 0) kind (u8 p 4) (u8 p 5) (u8 p 6) (u8 p 7) settings

/-- The first values of a record of a key with no lead (R57): a derived record is seeded from the LAST lead of its instrument
when that lead holds a current value. -/
def seeded (s : State) (r : Record) : Record :=
  match s.lead r.instrument .last with
  | none => r
  | some l =>
    match (s.slot l).current with
    | none => r
    | some v =>
      match r.kind with
      | .net => { r with lastOperand := some v, stale := (s.slot l).stale }
      | .high | .low => { r with current := some v, direction := .first, stale := (s.slot l).stale }
      | _ => r

/-- The first values of a new mirror, copied from the lead of its key (R56). -/
def copied (lead r : Record) : Record :=
  { r with
    current := lead.current, previous := lead.previous, direction := lead.direction
    stale := lead.stale, suspect := lead.suspect
    reference := if r.kind = .net then lead.reference else r.reference
    lastOperand := if r.kind = .net then lead.lastOperand else r.lastOperand }

/-- The new record before its values: key, placement, resolved anchor and settings in an empty record (R54). -/
def Binding.record (b : Binding) : Record :=
  { Record.empty with
    state := .live, instrument := b.instrument, kind := b.kind, panel := b.panelNo
    rowOffset := b.rowOffset, colOffset := b.colOffset
    page := b.panel.page, row := b.panel.row + b.rowOffset, col := b.panel.col + b.colOffset
    width := b.width, settings := b.settings }

/-- The new record with its first values (R56, R57) and its band outcome, which is no crossing (R58). -/
def Binding.valued (b : Binding) (s : State) : Record :=
  let r := match s.lead b.instrument b.kind with
    | some l => copied (s.slot l) b.record
    | none => seeded s b.record
  r.banded

/-- BIND's effects (R54 to R59): the slot turns LIVE, joins the tail of its chain and claims its span; the record gets its first
values and becomes due. -/
def bindApply (b : Binding) (s : State) : State :=
  let bucket := bucketOf b.instrument b.kind
  let t := s.setSlot b.slot (b.valued s)
  let t := t.setChain bucket (s.chain bucket ++ [b.slot])
  let t := { t with ftb := { t.ftb with liveCount := t.ftb.liveCount + 1, freeCount := t.ftb.freeCount - 1 } }
  let t := t.claimAll b.slot b.span
  t.becomeDue b.slot

def bindBody (m : Message) (s : State) : Verdict :=
  match bindCheck m.params s with
  | .error r => .refuse r
  | .ok b => .done (bindApply b s) (bytes16 b.slot)

/-- BIND (R50 to R59). -/
def execBind (s : State) : Step := .next (runCommand .bind bindBody s)

/-! ## AMEND -/

/-- AMEND's checks (R60): the settings, then LIVE. -/
def amendCheck (p : List Byte) (s : State) : Except Result Settings :=
  if 1023 < u16 p 0 then .error .badArg
  else
    match settingsAt p 2 with
    | .error r => .error r
    | .ok settings => if s.isLive (u16 p 0) then .ok settings else .error .notLive

/-- AMEND's effects (R61, R62): every setting replaced, the band evaluated, the record made due. -/
def amendApply (slot : Nat) (settings : Settings) (s : State) : State :=
  ((s.updSlot slot (fun r => { r with settings := settings })).evaluateBand slot).becomeDue slot

def amendBody (m : Message) (s : State) : Verdict :=
  match amendCheck m.params s with
  | .error r => .refuse r
  | .ok settings => .done (amendApply (u16 m.params 0) settings s) []

/-- AMEND (R60 to R62). -/
def execAmend (s : State) : Step := .next (runCommand .amend amendBody s)

/-! ## Retirement (R63, R41) -/

/-- Unlinking a slot from its chain, with the lead hand-over (R35, R41): when the slot is the lead of its key, its guard state
passes to the next mirror, and its own guard fields are emptied. -/
def State.unlink (s : State) (k : Nat) : State :=
  let r := s.slot k
  let bucket := bucketOf r.instrument r.kind
  let t := s.setChain bucket ((s.chain bucket).filter (· != k))
  match s.mirrors r.instrument r.kind with
  | [] => t
  | lead :: others =>
    if lead = k then
      let t := t.updSlot k (fun x => { x with suspectValue := none, holdCount := 0 })
      match others with
      | [] => t
      | next :: _ => t.updSlot next (fun x => { x with suspectValue := r.suspectValue, holdCount := r.holdCount })
    else t

/-- A highlight ends: kind NONE, age 0, flash mask empty (R32). -/
def Record.endHighlight (r : Record) : Record := { r with highlight := .off, age := 0, mask := [] }

/-- The retirement of a LIVE record (R63): unlinked, its alert-list entry removed, its highlight ended, RETIRING, and queued for
its clear job whatever its panel's state. -/
def State.retire (s : State) (k : Nat) : State :=
  let t := s.unlink k
  let t := { t with alerts := t.alerts.filter (fun e => e.slot != k) }
  let t := t.updSlot k (fun r => { r.endHighlight with state := .retiring, due := false })
  let t := { t with ftb := { t.ftb with
    liveCount := t.ftb.liveCount - 1, retiringCount := t.ftb.retiringCount + 1 } }
  if (t.slot k).queued then t else t.enqueue k

def retireBody (m : Message) (s : State) : Verdict :=
  if 1023 < u16 m.params 0 then .refuse .badArg
  else if s.isLive (u16 m.params 0) then .done (s.retire (u16 m.params 0)) []
  else .refuse .notLive

/-- RETIRE (R64). -/
def execRetire (s : State) : Step := .next (runCommand .retire retireBody s)

end Sys2Proof.Machine
end

