-- ==== Sys2Proof/Config.lean ====
section
/-!
DEFINITION. What the manual leaves open as a value: the two free values of the model.  Table 10-3 names the ROM glyphs by what
they show ("the printable character of the code", "single-line box pieces", "light shade") and gives no pixel of them.  Table
10-6 names lines 2 to 4 of vertical blanking and does not say whether its first line is line 0 or line 1.
-/

namespace Sys2Proof

/-- FREE VALUE (log entry 7, safe).  Row `row` (0 at the top) of the ROM glyph of `code`, for the codes whose shape Table 10-3 names
but does not draw: 21h..7Eh, C0h..D8h, DEh and DFh.  It has no body: nothing can be proved of a shape. -/
opaque Config.romGlyphRow : (code : Byte) → (row : Nat) → Byte

/-- FREE VALUE (log entry 24, safe).  Table 10-6 counts the lines of vertical blanking from 1, and from 0 when this is false.  It has no
body: a statement about VSYNC holds for either count. -/
opaque Config.blankingLinesFromOne : Bool

end Sys2Proof
end

