-- ==== Sys2Proof/Machine/Display.lean ====
section
/-!
DEFINITION. The Display Output Unit (chapter 10): SHOW, PATTERN, GLYPH_LOAD, the frame start and the scan-out of a row.
-/

namespace Sys2Proof.Machine

/-! ## SHOW, PATTERN and GLYPH_LOAD (R178, R179, R181) -/

def showBody (m : Message) (s : State) : Verdict :=
  if 3 < u8 m.params 0 then .refuse .badArg
  else .done { s with dou := { s.dou with pendingPage := some (u8 m.params 0) } } []

/-- SHOW (R178). -/
def execShow (s : State) : Step := .next (runCommand .showPage showBody s)

def patternBody (m : Message) (s : State) : Verdict :=
  if 1 < u8 m.params 0 then .refuse .badArg
  else .done { s with dou := { s.dou with pendingPattern := some (u8 m.params 0 == 1) } } []

/-- PATTERN (R179). -/
def execPattern (s : State) : Step := .next (runCommand .pattern patternBody s)

def glyphLoadBody (m : Message) (s : State) : Verdict :=
  let p := m.params
  if u8 p 0 < 128 ∨ 191 < u8 p 0 then .refuse .badArg
  else .done { s with dou := { s.dou with glyphs := Table.set blankGlyph s.dou.glyphs (u8 p 0) (p.drop 1) } } []

/-- GLYPH_LOAD (R181). -/
def execGlyphLoad (s : State) : Step := .next (runCommand .glyphLoad glyphLoadBody s)

/-! ## Lines and blanking (R177, R183, Table 10-6) -/

/-- One pixel line: its 1056 active pixels, then 288 periods of horizontal blanking at level 0, in the first 32 of which HSYNC is
asserted (R177, R183, Table 10-6). -/
def scanLine (vsync : Bool) (active : List Rgb) : List VideoPins :=
  active.map (fun l => { levels := l, hsync := false, vsync := vsync })
    ++ (List.range 288).map (fun x => { levels := Rgb.black, hsync := x < 32, vsync := vsync })

/-- VSYNC is asserted over line `line` of vertical blanking, `line` counted from 0: the whole of lines 2 to 4 in the count of Table 10-6,
whose first line is a free value (log entry 24, DESIGN CHOICE, unsafe for where in a line VSYNC begins and ends). -/
def vsyncOn (line : Nat) : Bool :=
  let counted := if Config.blankingLinesFromOne then line + 1 else line
  2 ≤ counted ∧ counted ≤ 4

/-- A line of vertical blanking: level 0 throughout (R183). -/
def blankedLine (vsync : Bool) : List VideoPins := scanLine vsync (List.replicate 1056 Rgb.black)

/-- The 50 lines of vertical blanking that begin a frame (R177). -/
def verticalBlanking : List (List VideoPins) := (List.range 50).map (fun line => blankedLine (vsyncOn line))

/-! ## Frame start (R177) -/

/-- What DOU does at a frame start (R177 to R181): the pending page and pattern take effect, the blink counter advances, the
attribute table and the user glyphs are taken for the frame, and vertical blanking begins; the frame's 50 rows are still to be
read. -/
def Dou.frameStart (d : Dou) (attrs : Table Attr) : Dou :=
  { d with
    shown := d.pendingPage.getD d.shown
    pendingPage := none
    pattern := d.pendingPattern.getD d.pattern
    pendingPattern := none
    blink := (d.blink + 1) % 32
    frameAttrs := attrs
    frameGlyphs := d.glyphs
    nextRow := some 0
    rowCells := []
    video := .lines verticalBlanking }

/-- A frame start adds one owed sweep; at 8 the frame is lost and AGING_SLIPPED is set (R162, R163). -/
def State.oweSweep (s : State) : State :=
  if s.agu.owed < 8 then { s with agu := { s.agu with owed := s.agu.owed + 1 } } else s.raise .agingSlipped

/-- Rows of the frame in progress are still to be read, so the next frame has not come (R177). -/
def Dou.midFrame (d : Dou) : Bool := d.nextRow.any (fun row => row < 50)

/-- FRAME_START (R177): the first frame's, or the next one's when all 50 rows of the frame before have been read (log entry 11,
DEDUCED, safe). -/
def execFrameStart (s : State) : Step :=
  if s.resetLow || s.dou.midFrame then .next s
  else .next ({ s with dou := s.dou.frameStart s.atu.attrs } : State).oweSweep

/-! ## Drawing (R179, R181, R183) -/

/-- The blink phase is ON while the counter is 0..15 (R180). -/
def Dou.phaseOn (d : Dou) : Bool := d.blink ≤ 15

/-- Row `row` of the glyph of a code (Table 10-3): blank, the user glyph RAM of this frame, the full block, the half blocks, or a
ROM shape the manual does not draw (log entry 7; the free shapes are safe, the half blocks DEDUCED and unsafe). -/
def Dou.glyphRow (d : Dou) (code : Byte) (row : Nat) : Byte :=
  let n := code.toNat
  if n ≤ 0x20 ∨ n = 0x7F ∨ 0xE0 ≤ n then 0
  else if 0x80 ≤ n ∧ n ≤ 0xBF then (Table.get blankGlyph d.frameGlyphs n).getD row 0
  else if n = 0xDB then 0xFF
  else if n = 0xD9 then (if 7 ≤ row then 0xFF else 0)
  else if n = 0xDA then (if row < 7 then 0xFF else 0)
  else if n = 0xDC then 0xF0
  else if n = 0xDD then 0x0F
  else Config.romGlyphRow code row

/-- Pixel `x` of a glyph row, 0 the leftmost, is lit: bit 7 is the leftmost pixel (R181). -/
def lit (bits : Byte) (x : Nat) : Bool := bits.getLsbD (7 - x)

/-- The colour of pixel `x` of glyph row `row` of a cell, from its attribute entry, its glyph row and the blink phase (R183 steps 1
to 5). -/
def pixelColour (a : Attr) (phaseOn : Bool) (bits : Byte) (row x : Nat) : BitVec 4 :=
  let fore := if a.reverse then a.background else a.foreground
  let back := if a.reverse then a.foreground else a.background
  if a.blink && !phaseOn then back
  else if lit bits x then fore
  else if a.bold && 0 < x && lit bits (x - 1) then fore
  else if a.underline && row = 13 then fore
  else back

/-- The colour of a pixel of the test pattern, from the cell's position alone (R179). -/
def patternColour (row col : Nat) : BitVec 4 := if (row + col) % 2 = 0 then 15 else 0

/-- The level of one video component (R183): 2 for its bit, 1 for the intensity. -/
def componentLevel (bit intensity : Bool) : Nat := (if bit then 2 else 0) + (if intensity then 1 else 0)

/-- The levels of a colour number: bit 2 red, bit 1 green, bit 0 blue, bit 3 intensity (R183). -/
def levelsOf (c : BitVec 4) : Rgb :=
  { red := componentLevel (c.getLsbD 2) (c.getLsbD 3), green := componentLevel (c.getLsbD 1) (c.getLsbD 3)
    blue := componentLevel (c.getLsbD 0) (c.getLsbD 3) }

/-- The 8 pixels of line `line` of the cell in column `col` of character row `row` (R179, R183). -/
def Dou.cellLine (d : Dou) (row line col : Nat) (c : Cell) : List Rgb :=
  (List.range 8).map (fun x =>
    levelsOf (if d.pattern then patternColour row col
      else pixelColour (Table.get Attr.initial d.frameAttrs c.attr) d.phaseOn (d.glyphRow c.char line) line x))

/-- One active line of a character row, drawn from the row's cells (R177, R183). -/
def Dou.drawLine (d : Dou) (row : Nat) (cells : List Cell) (line : Nat) : List VideoPins :=
  scanLine false (cells.zipIdx.flatMap (fun (c, col) => d.cellLine row line col c))

/-- The cells of character row `row` of the shown page, left to right (R182). -/
def State.shownRow (s : State) (row : Nat) : List Cell :=
  (List.range 132).map (fun col => s.cell (cellNumber s.dou.shown row col))

/-- ROW_READ (R182): the next of the frame's 50 character rows is read whole, and its 14 lines are drawn from that read. -/
def execRowRead (s : State) : Step :=
  match s.dou.nextRow with
  | some row =>
    if !s.resetLow && row < 50 then
      let cells := s.shownRow row
      .next { s with dou := { s.dou with
        nextRow := some (row + 1), rowCells := cells, video := .lines ((List.range 14).map (s.dou.drawLine row cells)) } }
    else .next s
  | none => .next s

end Sys2Proof.Machine
end

