-- ==== Sys2Proof/Machine/Link.lean ====
section
/-!
DEFINITION. The Link Interface (chapter 1) and power-on reset (section 11.6): the receiver, address and data characters, the
assembler, breaks, the transmitter, and the two steps of MDC that name no command.
-/

namespace Sys2Proof.Machine

/-! ## Power-on reset -/

/-- POWER_ON_RESET (R192): every block takes its reset values and holds them; every operation in progress is abandoned.  The
commands that wait stay (log entry 21, DESIGN CHOICE, safe). -/
def execPowerOnReset (s : State) : Step := .next { State.reset with pending := s.pending }

/-- RESET_RELEASE (R191, R19, R184): the strap is sampled as the unit address, the receiver is in SETTLE, and the count of high
line time starts at 0.  DOU's first frame begins; its frame start is a step of its own. -/
def execResetRelease (strap : BitVec 4) (s : State) : Step :=
  if s.resetLow then
    .next { s with resetLow := false, lki := { s.lki with rx := .settle, unitAddress := strap, replyHigh := 0 } }
  else .next s

/-! ## The receiver (R1, R2) -/

def State.setRx (s : State) (r : RxState) : State := { s with lki := { s.lki with rx := r } }

/-- A step of the receiver that comes about only in its state `before`, out of reset, and takes it to `next`. -/
def rxStep (before next : RxState) (s : State) : State :=
  if !s.resetLow && s.lki.rx == before then s.setRx next else s

/-- START_BIT_FALL (R1): in HUNT the fall starts RECEIVE.  In SETTLE a fall restarts the count of high time, which the model does
not hold (R2; log entry 6, DESIGN CHOICE, safe). -/
def execStartBitFall (s : State) : Step := .next (rxStep .hunt .receive s)

/-- FALSE_START (R1): the fall was noise; back to HUNT with no character received. -/
def execFalseStart (s : State) : Step := .next (rxStep .receive .hunt s)

/-- AWAIT_HIGH_EXIT (R1). -/
def execAwaitHighExit (s : State) : Step := .next (rxStep .awaitHigh .hunt s)

/-- SETTLE_END (R2). -/
def execSettleEnd (s : State) : Step := .next (rxStep .settle .hunt s)

/-- The receiver's state after a character: HUNT, or AWAIT_HIGH after a framing error (R1). -/
def rxAfter (stop : Bool) : RxState := if framingErrorOf stop then .awaitHigh else .hunt

/-! ## Address characters and selection (R3 to R5) -/

/-- Table 1-3. -/
def selectionOf (u : BitVec 4) (value : Byte) : Selection :=
  if u.toNat ≤ 14 ∧ value.toNat = u.toNat then .loud
  else if u.toNat ≤ 14 ∧ value.toNat = 16 + u.toNat then .quiet
  else if value.toNat = 15 ∨ value.toNat = 31 then .quiet
  else .deaf

def HeldItem.reply : HeldItem → Bool
  | .message _ r => r
  | .notice _ _ r => r

def HeldItem.clearReply : HeldItem → HeldItem
  | .message m _ => .message m false
  | .notice c r _ => .notice c r false

def Assembler.clearReply : Assembler → Assembler
  | .waitCode => .waitCode
  | .waitLength m => .waitLength { m with reply := false }
  | .params m => .params { m with reply := false }
  | .waitCheck m => .waitCheck { m with reply := false }
  | .skip => .skip

/-- The replies whose first character has begun: the head while the transmitter is SENDING it. -/
def Lki.begunReplies (l : Lki) : List (List Byte) :=
  match l.tx with
  | .sending _ => l.replies.take 1
  | _ => []

/-- The cancelling of every reply owed and not yet begun, at a change out of LOUD (R5). -/
def Lki.cancelReplies (l : Lki) : Lki :=
  { l with
    replies := l.begunReplies
    inbound := l.inbound.map (fun e => { e with reply := false })
    held := l.held.map HeldItem.clearReply
    assembler := l.assembler.clearReply
    replyOwed := false }

/-- The selection state becomes `sel`; leaving LOUD cancels replies (R3, R5). -/
def Lki.select (l : Lki) (sel : Selection) : Lki :=
  let l' := if l.selection = .loud ∧ sel ≠ .loud then l.cancelReplies else l
  { l' with selection := sel }

/-- The boundary test truncates: a message is partly assembled (R4). -/
def Assembler.truncates : Assembler → Bool
  | .waitLength _ => true
  | .params _ => true
  | .waitCheck _ => true
  | _ => false

/-- The boundary test (R4): a partly assembled message is discarded and TRUNCATED set; SKIP ends; WAIT_CODE stays. -/
def State.boundaryTest (s : State) : State :=
  let t := { s with lki := { s.lki with assembler := .waitCode } }
  if s.lki.assembler.truncates then t.raise .truncated else t

/-- The newest entry of the inbound queue has its boundary flag set (R4). -/
def markNewest : List InEntry → List InEntry
  | [] => []
  | [e] => [{ e with boundary := true }]
  | e :: es => e :: markNewest es

/-- What an address character does at its reception (R3, R4, R5). -/
def State.addressReceived (s : State) (value : Byte) (damaged : Bool) : State :=
  let sel := if damaged then .deaf else selectionOf s.lki.unitAddress value
  let t := { s with lki := s.lki.select sel }
  let t := if damaged then t.raise .line else t
  let t := { t with lki := { t.lki with gapPending := false } }
  if t.lki.inbound.isEmpty then t.boundaryTest
  else { t with lki := { t.lki with inbound := markNewest t.lki.inbound } }

/-- ADDRESS_CHARACTER (R1, R3, R4, R5): received in RECEIVE, the only state that samples a character (log entry 15, DEDUCED,
safe). -/
def execAddressCharacter (value : Byte) (parity stop : Bool) (s : State) : Step :=
  if !s.resetLow && s.lki.rx == .receive then
    .next ((s.setRx (rxAfter stop)).addressReceived value (parityErrorOf value true parity || framingErrorOf stop))
  else .next s

/-! ## Data characters (R6, R7) -/

/-- What a data character does at its reception (R6, R7). -/
def State.dataReceived (s : State) (value : Byte) (parityError framingError : Bool) : State :=
  if s.lki.selection = .deaf then s
  else if s.lki.inbound.length < 64 then
    { s with lki := { s.lki with
        inbound := s.lki.inbound ++ [{ value := value, parityError := parityError, framingError := framingError
                                       gap := s.lki.gapPending, boundary := false
                                       reply := s.lki.selection == .loud }]
        gapPending := false } }
  else ({ s with lki := { s.lki with gapPending := true } } : State).raise .overrun

/-- DATA_CHARACTER (R1, R6, R7): received in RECEIVE. -/
def execDataCharacter (value : Byte) (parity stop : Bool) (s : State) : Step :=
  if !s.resetLow && s.lki.rx == .receive then
    .next ((s.setRx (rxAfter stop)).dataReceived value (parityErrorOf value false parity) (framingErrorOf stop))
  else .next s

/-! ## Break (R2, R18) -/

/-- The effects of a break event, on LKI alone (R18). -/
def Lki.broken (l : Lki) : Lki :=
  { l with
    rx := .settle
    selection := .deaf
    inbound := []
    gapPending := false
    assembler := .waitCode
    held := none
    replyOwed := false
    replies := []
    tx := match l.tx with
      | .sending _ => .cutShort
      | t => t }

/-- BREAK (R2, R18): raised in AWAIT_HIGH, and again in SETTLE (log entry 15, DEDUCED, safe). -/
def execBreak (s : State) : Step :=
  if !s.resetLow && (s.lki.rx == .awaitHigh || s.lki.rx == .settle) then .next { s with lki := s.lki.broken }
  else .next s

/-! ## Message assembly (R8 to R11) -/

def InEntry.damaged (e : InEntry) : Bool := e.parityError || e.framingError

/-- The message with entry `e` added: its value to the running sum, its flags to the damage indications (R8). -/
def Partial.add (m : Partial) (e : InEntry) : Partial :=
  { m with sum := m.sum + e.value, gapSeen := m.gapSeen || e.gap, lineSeen := m.lineSeen || e.damaged }

/-- The reason a completed message is discarded, none when it is sound (R8, R10). -/
def Partial.damage (m : Partial) : Option DiscardReason :=
  if m.gapSeen then some .overrun
  else if m.lineSeen then some .line
  else if m.sum ≠ 0 then some .check
  else none

/-- A message is complete at its check byte: accepted and held, or discarded with a notice held in its place (R8, R10). -/
def State.completeMessage (s : State) (m : Partial) : State :=
  let t := { s with lki := { s.lki with assembler := .waitCode } }
  match m.damage with
  | none => { t with lki := { t.lki with held := some (.message { code := m.code, params := m.params } m.reply) } }
  | some reason =>
    ({ t with lki := { t.lki with held := some (.notice m.code reason m.reply) } } : State).raise reason.flag

def State.setAssembler (s : State) (a : Assembler) : State := { s with lki := { s.lki with assembler := a } }

/-- The assembler handles an entry according to its state (R8, R9). -/
def State.assemble (s : State) (e : InEntry) : State :=
  match s.lki.assembler with
  | .waitCode =>
    s.setAssembler (.waitLength { code := e.value, length := 0, params := [], sum := e.value, reply := e.reply
                                  gapSeen := e.gap, lineSeen := e.damaged })
  | .waitLength m =>
    if e.damaged || e.gap || 60 < e.value.toNat then (s.setAssembler .skip).raise .form
    else
      let m' := { m with length := e.value.toNat, sum := m.sum + e.value }
      s.setAssembler (if e.value.toNat = 0 then .waitCheck m' else .params m')
  | .params m =>
    let m' := { m.add e with params := m.params ++ [e.value] }
    s.setAssembler (if m'.params.length < m.length then .params m' else .waitCheck m')
  | .waitCheck m => s.completeMessage (m.add e)
  | .skip => s

/-- ASSEMBLER_TAKE (R8, R11): with nothing held, the head entry leaves the inbound queue and is handled; an entry whose boundary
flag is set is followed by the boundary test (R4). -/
def execAssemblerTake (s : State) : Step :=
  match s.lki.inbound with
  | e :: rest =>
    if !s.resetLow && s.lki.held.isNone then
      let t := ({ s with lki := { s.lki with inbound := rest } } : State).assemble e
      .next (if e.boundary then t.boundaryTest else t)
    else .next s
  | [] => .next s

/-! ## MDC's takes that name no command (R13) -/

/-- DISCARD_NOTICE_TAKE (R13): the notice's execution ends at once, answered DISCARDED with the reason byte when a reply is
owed. -/
def execDiscardNoticeTake (s : State) : Step :=
  match s.lki.held with
  | some (.notice code reason reply) =>
    if s.mayTake reply then .next ((s.takeHeld reply).endExecution code .discarded [reason.byte]) else .next s
  | _ => .next s

/-- UNKNOWN_COMMAND (R13): a code that names no command is refused with UNKNOWN. -/
def execUnknownCommand (s : State) : Step :=
  match s.lki.held with
  | some (.message m reply) =>
    if s.mayTake reply && !knownCode m.code then .next ((s.takeHeld reply).endExecution m.code .unknown [])
    else .next s
  | _ => .next s

/-! ## The transmitter (R16 to R18) -/

/-- Table of section 1.6: the transmitter is IDLE, WAITING or SENDING. -/
inductive Transmitter where
  | idle | waiting | sending
  deriving DecidableEq, Repr

/-- The transmitter's state (R16): SENDING while it drives the line; else WAITING with a reply at the head of the queue and the
unit LOUD; else IDLE (log entry 13, DEDUCED, safe). -/
def Lki.transmitter (l : Lki) : Transmitter :=
  match l.tx with
  | .released => if !l.replies.isEmpty && l.selection == .loud then .waiting else .idle
  | _ => .sending

/-- REPLY_START (R16, R17): WAITING, once the reply line has been high for at least the reply gap, the transmitter begins the
reply at the head of the queue.  Before that the count alone has moved on (log entry 5, DESIGN CHOICE, unsafe). -/
def execReplyStart (highTime : Nat) (s : State) : Step :=
  match s.lki.replies with
  | chars :: _ =>
    if !s.resetLow && s.lki.transmitter == .waiting then
      if s.lki.replyGap ≤ highTime then
        .next { s with lki := { s.lki with tx := .sending (replyLevels chars), replyHigh := 0 } }
      else .next { s with lki := { s.lki with replyHigh := highTime } }
    else .next s
  | [] => .next s

/-- REPLY_END (R16): the reply leaves the queue, the line is released and the count starts anew. -/
def execReplyEnd (s : State) : Step :=
  match s.lki.tx with
  | .sending _ =>
    if s.resetLow then .next s
    else .next { s with lki := { s.lki with replies := s.lki.replies.drop 1, tx := .released, replyHigh := 0 } }
  | _ => .next s

/-- REPLY_CUT_SHORT (R18): the character in progress has ended; the line is released and the count starts anew. -/
def execReplyCutShort (s : State) : Step :=
  if !s.resetLow && s.lki.tx == .cutShort then .next { s with lki := { s.lki with tx := .released, replyHigh := 0 } }
  else .next s

end Sys2Proof.Machine
end

