-- ==== Sys2Proof/Machine/Formatter.lean ====
section
/-!
DEFINITION. The Formatter (chapter 5): a value, a format descriptor and a width give a string of exactly that width and an
overflow indication.
-/

namespace Sys2Proof.Machine

/-- The reduction of the magnitude `m` by the factor `f`, rounded half up (R95). -/
def reduce (m f : Nat) : Nat := if f ≤ 2 * (m % f) then m / f + 1 else m / f

/-- The sign of a form (R96): none when R is 0. -/
def signOf (v : Int) (r : Nat) (always : Bool) : List Byte :=
  if r = 0 then []
  else if v < 0 then [0x2D]
  else if always && 0 < v then [0x2B]
  else []

def digitByte (n : Nat) : Byte := BitVec.ofNat 8 (48 + n % 10)

/-- The decimal digits of a number of at most `fuel` + 1 digits, most significant first, with no leading zeros (R97). -/
def digitsUpTo : Nat → Nat → List Byte
  | 0, n => [digitByte n]
  | fuel + 1, n => if n < 10 then [digitByte n] else digitsUpTo fuel (n / 10) ++ [digitByte n]

/-- The digits of a number (R97).  The part's numbers have at most 10 digits. -/
def digitsOf (n : Nat) : List Byte := digitsUpTo 9 n

/-- A number in `d` fixed digits, with leading zeros (R97). -/
def fixedDigits : Nat → Nat → List Byte
  | 0, _ => []
  | d + 1, n => fixedDigits d (n / 10) ++ [digitByte n]

/-- A candidate form in its three parts: the sign, the digits of the integer part, and what follows them. -/
structure Form where
  sign : List Byte
  whole : List Byte
  tail : List Byte
  deriving DecidableEq, Repr

/-- The length L of a form. -/
def Form.size (f : Form) : Nat := f.sign.length + f.whole.length + f.tail.length

/-- The DEC form at display precision `q` (R98). -/
def decForm (v : Int) (p q : Nat) (always : Bool) : Form :=
  let r := reduce v.natAbs (10 ^ (p - q))
  { sign := signOf v r always, whole := digitsOf (r / 10 ^ q)
    tail := if q = 0 then [] else 0x2E :: fixedDigits q (r % 10 ^ q) }

/-- The numerator width of a display exponent (R99). -/
def numeratorWidth (j : Nat) : Nat := if j ≤ 3 then 1 else if j ≤ 6 then 2 else 3

/-- The FRAC form at display exponent `j` (R99). -/
def fracForm (v : Int) (k j : Nat) (always : Bool) : Form :=
  let r := reduce v.natAbs (2 ^ (k - j))
  { sign := signOf v r always, whole := digitsOf (r / 2 ^ j)
    tail := if j = 0 then [] else 0x27 :: fixedDigits (numeratorWidth j) (r % 2 ^ j) }

/-- A COUNT form with a scale and a suffix; scale 1 with no suffix is the plain form (R100). -/
def countForm (v : Int) (scale : Nat) (suffix : List Byte) (always : Bool) : Form :=
  let r := reduce v.natAbs scale
  { sign := signOf v r always, whole := digitsOf r, tail := suffix }

/-- The precisions a degrading form goes through: `q`, `q` − 1, …, 0 (R104, R105). -/
def precisions : Nat → List Nat
  | 0 => [0]
  | q + 1 => (q + 1) :: precisions q

/-- The candidate sequence of a value under a descriptor (Table 5-3); with degrade OFF the plain form alone (section 5.4). -/
def candidates (v : Int) (f : Format) : List Form :=
  match f.mode with
  | .dec =>
    (if f.degrade then precisions f.display else [f.display]).map (fun q => decForm v f.source q f.signAlways)
  | .frac =>
    (if f.degrade then precisions f.display else [f.display]).map (fun j => fracForm v f.source j f.signAlways)
  | .count =>
    countForm v 1 [] f.signAlways ::
      (if f.degrade then
        [countForm v 1000 [0x4B] f.signAlways, countForm v 1000000 [0x4D] f.signAlways,
         countForm v 1000000000 [0x42] f.signAlways]
      else [])

/-- A fitting form filled to `w` characters: BLANK right-justifies it (R102); ZERO puts the sign first and the zeros before the
first digit (R103). -/
def Form.fill (f : Form) (zero : Bool) (w : Nat) : List Byte :=
  if zero then f.sign ++ List.replicate (w - f.size) 0x30 ++ f.whole ++ f.tail
  else List.replicate (w - f.size) 0x20 ++ f.sign ++ f.whole ++ f.tail

/-- The Formatter (R93, R94, R101, R107): the string and the overflow indication. -/
def formatValue (value : Option Int) (f : Format) (w : Nat) : List Byte × Bool :=
  match value with
  | none => (List.replicate w 0x20, false)
  | some v =>
    match (candidates v f).find? (fun c => c.size ≤ w) with
    | some c => (c.fill f.fillZero w, false)
    | none => (List.replicate w 0x23, true)

end Sys2Proof.Machine
end

