-- ==== Sys2Proof/Machine/Painter.lean ====
section
/-!
DEFINITION. The Painter (chapter 8), with the condition choice and the flash mask it works out (chapter 7), and SYNC.
-/

namespace Sys2Proof.Machine

/-! ## Conditions (Table 7-2, Table 7-3) -/

inductive Condition where
  | noValue | steadyFirst | steadyUp | steadyDown | steadySame | flashFirst | flashUp | flashDown | flashSame | digitRest
  | alertFlash | alertSteady | suspect | stale | overflow | cleared
  deriving DecidableEq, Repr

/-- The number of a condition (Table 7-2). -/
def Condition.number : Condition → Nat
  | .noValue => 0 | .steadyFirst => 1 | .steadyUp => 2 | .steadyDown => 3 | .steadySame => 4 | .flashFirst => 5
  | .flashUp => 6 | .flashDown => 7 | .flashSame => 8 | .digitRest => 9 | .alertFlash => 10 | .alertSteady => 11
  | .suspect => 12 | .stale => 13 | .overflow => 14 | .cleared => 15

/-- FLASH by direction; NONE is shown as FIRST (R131). -/
def flashBy : Direction → Condition
  | .unset => .flashFirst | .first => .flashFirst | .up => .flashUp | .down => .flashDown | .same => .flashSame

/-- STEADY by direction; NONE is shown as FIRST (R131). -/
def steadyBy : Direction → Condition
  | .unset => .steadyFirst | .first => .steadyFirst | .up => .steadyUp | .down => .steadyDown | .same => .steadySame

/-- The condition of span position `i`: the first row of Table 7-3 whose test holds on the snapshot (R129). -/
def conditionAt (sn : Snapshot) (overflow : Bool) (mask : List Nat) (i : Nat) : Condition :=
  if sn.stale then .stale
  else if overflow then .overflow
  else if sn.suspect then .suspect
  else if sn.highlight = .alert ∧ 0 < sn.age then .alertFlash
  else if sn.highlight = .tick ∧ 0 < sn.age then (if mask.contains i then flashBy sn.direction else .digitRest)
  else if sn.alert then .alertSteady
  else if sn.current.isNone then .noValue
  else steadyBy sn.direction

/-! ## The flash mask (R132 to R134) -/

/-- The positions 0 to w − 1. -/
def wholeMask (w : Nat) : List Nat := List.range w

/-- The positions at which a new string and the painted image differ under DIGITS (R134): all of them when there is no image, or
either is an overflow or a no-value string. -/
def digitsMask (w : Nat) (string : List Byte) (overflow absent : Bool) (image : Option (List Byte)) : List Nat :=
  match image with
  | none => wholeMask w
  | some old =>
    if overflow || absent || old.all (· == 0x23) || old.all (· == 0x20) then wholeMask w
    else (List.range w).filter (fun i => string.getD i 0 != old.getD i 0)

/-- The mask a job forms when its snapshot's new-value flag is set: empty when no highlight runs, else by highlight mode
(R132). -/
def formedMask (sn : Snapshot) (string : List Byte) (overflow : Bool) : List Nat :=
  if sn.highlight = .off ∨ sn.age = 0 then []
  else if sn.format.digits then digitsMask sn.width string overflow sn.current.isNone sn.image
  else wholeMask sn.width

/-! ## Taking a job (R144 to R146, R149) -/

/-- The snapshot of a record (R145). -/
def Record.snapshot (r : Record) : Snapshot :=
  { page := r.page, row := r.row, col := r.col, width := r.width, format := r.settings.format, current := r.current
    direction := r.direction, stale := r.stale, suspect := r.suspect, alert := r.alert, highlight := r.highlight, age := r.age
    mask := r.mask, newValue := r.newValue, image := r.image }

/-- The bank named by a record's panel (R123).  A LIVE record's panel is never CLOSED; bank A stands for it there (log entry 18,
DESIGN CHOICE, unsafe). -/
def State.bankOf (s : State) (p : Nat) : Bank :=
  match s.panel p with
  | some e => e.bank
  | none => .a

/-- The write list of a LIVE job (R146): one write for each span position, with its character and the index of its condition. -/
def paintWrites (s : State) (bank : Bank) (sn : Snapshot) (string : List Byte) (overflow : Bool) (mask : List Nat) :
    List CellWrite :=
  (List.range sn.width).map (fun i =>
    { cell := cellNumber sn.page sn.row (sn.col + i), char := string.getD i 0x20
      attr := s.scheme bank (conditionAt sn overflow mask i).number })

/-- The take of a LIVE paint job (R145, R146): the snapshot, the string, the flash mask and the write list. -/
def State.takeLive (s : State) (k : Nat) : State :=
  let sn := (s.slot k).snapshot
  let bank := s.bankOf (s.slot k).panel
  let (string, overflow) := formatValue sn.current sn.format sn.width
  let mask := if sn.newValue then formedMask sn string overflow else sn.mask
  let t := if sn.newValue then s.updSlot k (fun r => { r with mask := mask, newValue := false }) else s
  { t with ptr := { t.ptr with
      painter := .painting k { sn with mask := mask } bank string (paintWrites s bank sn string overflow mask) } }

/-- The write list of a clear job: the span cells that name the slot, in ascending order, each a blank with bank A's CLEARED index
(R149). -/
def State.clearWrites (s : State) (k : Nat) : List CellWrite :=
  ((s.slot k).span.filter (fun c => s.claim c == some k)).map (fun c => { cell := c, char := 0x20, attr := s.cleared })

/-- The end of a clear job (R151): the slot FREE with the empty record, the counts, the Painter IDLE, and the SYNC fence. -/
def State.clearEnded (s : State) (k : Nat) : State :=
  let t := s.setSlot k Record.empty
  ({ t with
      ftb := { t.ftb with retiringCount := t.ftb.retiringCount - 1, freeCount := t.ftb.freeCount + 1 }
      ptr := { t.ptr with painter := .idle } } : State).jobEnded k

/-- The take of a clear job (R149), which ends at once when its write list is empty (R151). -/
def State.takeClear (s : State) (k : Nat) : State :=
  match s.clearWrites k with
  | [] => s.clearEnded k
  | ws => { s with ptr := { s.ptr with painter := .clearing k ws } }

/-- PAINTER_TAKE (R143, R144): the IDLE Painter takes the head of the field queue; the slot's state at the take decides the job. -/
def execPainterTake (s : State) : Step :=
  match s.ptr.queue with
  | k :: rest =>
    if !s.resetLow && s.ptr.painter == .idle then
      let t := s.updSlot k (fun r => { r with queued := false })
      let t := { t with ptr := { t.ptr with queue := rest } }
      match (s.slot k).state with
      | .live => .next (t.takeLive k)
      | .retiring => .next (t.takeClear k)
      | .free => .fault .freeSlotQueued
    else .next s
  | [] => .next s

/-! ## Grants to the Painter (R147, R148, R150, R151) -/

/-- The end of a LIVE paint job (R148): the painted image stored, the Painter IDLE, and the SYNC fence. -/
def State.paintEnded (s : State) (k : Nat) (string : List Byte) : State :=
  let t := s.updSlot k (fun r => { r with image := some string })
  ({ t with ptr := { t.ptr with painter := .idle } } : State).jobEnded k

/-- A LIVE job's write at its grant: carried out when the cell names the job's slot, else dropped (R147). -/
def State.paintWrite (s : State) (k : Nat) (w : CellWrite) : State :=
  if s.claim w.cell = some k then s.writeCell w else s

/-- PAINT_WRITE_GRANT (R147, R148, R156). -/
def execPaintWriteGrant (s : State) : Step :=
  match s.ptr.painter with
  | .painting k sn bank string (w :: ws) =>
    if s.grantsPtr then
      let t := (s.paintWrite k w).setMark .ptr
      if ws.isEmpty then .next (t.paintEnded k string)
      else .next { t with ptr := { t.ptr with painter := .painting k sn bank string ws } }
    else .next s
  | _ => .next s

/-- A clear job's write at its grant: the blank written and the claim released when the cell still names the slot, else dropped
(R150; an entry that has become none drops it too, log entry 16, DESIGN CHOICE, unsafe). -/
def State.clearWrite (s : State) (k : Nat) (w : CellWrite) : State :=
  if s.claim w.cell = some k then (s.writeCell w).setClaim w.cell none else s

/-- CLEAR_WRITE_GRANT (R150, R151, R156). -/
def execClearWriteGrant (s : State) : Step :=
  match s.ptr.painter with
  | .clearing k (w :: ws) =>
    if s.grantsPtr then
      let t := (s.clearWrite k w).setMark .ptr
      if ws.isEmpty then .next (t.clearEnded k)
      else .next { t with ptr := { t.ptr with painter := .clearing k ws } }
    else .next s
  | _ => .next s

/-! ## SYNC (R157) -/

def syncBody (m : Message) (s : State) : Verdict :=
  if s.ptr.painter = .idle ∧ s.ptr.queue = [] then .done s []
  else .goesOn { s with mdc := .syncing m (s.ptr.painter != .idle) s.ptr.queue }

/-- SYNC (R157): ends at once on an empty fence; otherwise MDC stays BUSY until the fence empties. -/
def execSync (s : State) : Step := .next (runCommand .sync syncBody s)

end Sys2Proof.Machine
end

