-- ==== Sys2Proof/Machine/Panels.lean ====
section
/-!
DEFINITION. The Panel Table and its five commands, with the vacating writes of PANEL_MOVE (chapter 6).
-/

namespace Sys2Proof.Machine

/-! ## PANEL_OPEN (R113, R114) -/

def panelOpenBody (m : Message) (s : State) : Verdict :=
  let p := m.params
  if 31 < u8 p 0 then .refuse .badArg
  else if 3 < u8 p 1 then .refuse .badArg
  else if u8 p 4 < 1 ∨ 50 < u8 p 4 then .refuse .badArg
  else if u8 p 5 < 1 ∨ 132 < u8 p 5 then .refuse .badArg
  else
    match Bank.ofNumber (u8 p 6) with
    | none => .refuse .badArg
    | some bank =>
      if 50 < u8 p 2 + u8 p 4 ∨ 132 < u8 p 3 + u8 p 5 then .refuse .outside
      else if (s.panel (u8 p 0)).isSome then .refuse .inUse
      else
        .done (s.setPanel (u8 p 0) (some { frozen := false, page := u8 p 1, row := u8 p 2, col := u8 p 3, height := u8 p 4
                                           width := u8 p 5, bank := bank })) []

/-- PANEL_OPEN (R113, R114). -/
def execPanelOpen (s : State) : Step := .next (runCommand .panelOpen panelOpenBody s)

/-! ## PANEL_CLOSE (R115) -/

/-- Every LIVE record of the panel retired, in ascending slot order, and the panel CLOSED. -/
def panelClose (p : Nat) (s : State) : State := ((s.panelRecords p).foldl State.retire s).setPanel p none

def panelCloseBody (m : Message) (s : State) : Verdict :=
  let p := u8 m.params 0
  if 31 < p then .refuse .badArg
  else if (s.panel p).isNone then .refuse .noPanel
  else .done (panelClose p s) []

/-- PANEL_CLOSE (R115). -/
def execPanelClose (s : State) : Step := .next (runCommand .panelClose panelCloseBody s)

/-! ## PANEL_FREEZE and PANEL_THAW (R116, R118) -/

/-- A queued record deferred by a freeze: out of the field queue, its due flag set (R116). -/
def State.defer (s : State) (k : Nat) : State :=
  let t := s.updSlot k (fun r => { r with queued := false, due := true })
  { t with ptr := { t.ptr with queue := t.ptr.queue.filter (· != k) } }

/-- A FROZEN panel is left as it is; an OPEN one becomes FROZEN and its queued LIVE records leave the field queue (R116). -/
def panelFreeze (p : Nat) (e : Panel) (s : State) : State :=
  if e.frozen then s
  else
    ((s.panelRecords p).filter (fun k => (s.slot k).queued)).foldl State.defer
      (s.setPanel p (some { e with frozen := true }))

def panelFreezeBody (m : Message) (s : State) : Verdict :=
  let p := u8 m.params 0
  if 31 < p then .refuse .badArg
  else
    match s.panel p with
    | none => .refuse .noPanel
    | some e => .done (panelFreeze p e s) []

/-- PANEL_FREEZE (R116). -/
def execPanelFreeze (s : State) : Step := .next (runCommand .panelFreeze panelFreezeBody s)

/-- A deferred record queued by a thaw: at the tail of the field queue, its due flag cleared (R118). -/
def State.resume (s : State) (k : Nat) : State := (s.updSlot k (fun r => { r with due := false })).enqueue k

/-- An OPEN panel is left as it is; a FROZEN one becomes OPEN and its due LIVE records join the queue, ascending (R118). -/
def panelThaw (p : Nat) (e : Panel) (s : State) : State :=
  if e.frozen then
    ((s.panelRecords p).filter (fun k => (s.slot k).due)).foldl State.resume
      (s.setPanel p (some { e with frozen := false }))
  else s

def panelThawBody (m : Message) (s : State) : Verdict :=
  let p := u8 m.params 0
  if 31 < p then .refuse .badArg
  else
    match s.panel p with
    | none => .refuse .noPanel
    | some e => .done (panelThaw p e s) []

/-- PANEL_THAW (R118). -/
def execPanelThaw (s : State) : Step := .next (runCommand .panelThaw panelThawBody s)

/-! ## PANEL_MOVE (R119 to R122) -/

/-- The span of record `r` with its panel's origin at (page, row, col) (R25, R119). -/
def Record.spanAt (r : Record) (page row col : Nat) : List Nat :=
  spanCells page (row + r.rowOffset) (col + r.colOffset) r.width

/-- A cell claimed by a LIVE record of a panel other than `p` (R119, check 6). -/
def State.claimedElsewhere (s : State) (p c : Nat) : Bool :=
  match s.claim c with
  | some k => s.isLive k && (s.slot k).panel != p
  | none => false

/-- The anchor recomputed, the new span claimed and the record made due (R120 steps 2 to 4).  A LIVE record's panel is never
CLOSED; nothing is done for it there (log entry 18, DESIGN CHOICE, unsafe). -/
def State.reclaim (s : State) (k : Nat) : State :=
  match s.panel (s.slot k).panel with
  | none => s
  | some e =>
    let t := s.updSlot k (fun r => { r with page := e.page, row := e.row + r.rowOffset, col := e.col + r.colOffset })
    (t.claimAll k (t.slot k).span).becomeDue k

/-- The vacating writes of a record: a blank with the CLEARED index for each cell of its span that still names it (R120 step 1),
from left to right.  R120 gives the writes no order: that of rising columns is the model's (log entry 23, DESIGN CHOICE, unsafe for the
order of grants alone). -/
def State.vacatingWrites (s : State) (k cleared : Nat) : List CellWrite :=
  ((s.slot k).span.filter (fun c => s.claim c == some k)).map (fun c => { cell := c, char := 0x20, attr := cleared })

/-- The treatment of the records still to be moved (R120): a record with no vacating write is re-anchored and claimed at once; the
first that has some leaves MDC waiting for their grants; after the last record the execution ends. -/
def moveNext (m : Message) (p cleared : Nat) : List Nat → State → State
  | [], s => s.endExecution m.code .ok []
  | k :: rest, s =>
    match s.vacatingWrites k cleared with
    | [] => moveNext m p cleared rest (s.reclaim k)
    | ws => { s with mdc := .moving m p cleared k ws rest }

/-- An accepted PANEL_MOVE (R120): the panel's page and origin, then its LIVE records in ascending slot order. -/
def panelMove (m : Message) (p : Nat) (e : Panel) (page row col : Nat) (s : State) : State :=
  moveNext m p s.cleared (s.panelRecords p) (s.setPanel p (some { e with page := page, row := row, col := col }))

def panelMoveBody (m : Message) (s : State) : Verdict :=
  let q := m.params
  if 31 < u8 q 0 then .refuse .badArg
  else if 3 < u8 q 1 then .refuse .badArg
  else
    match s.panel (u8 q 0) with
    | none => .refuse .noPanel
    | some e =>
      if !e.frozen then .refuse .notFrozen
      else if 50 < u8 q 2 + e.height ∨ 132 < u8 q 3 + e.width then .refuse .outside
      else if (s.panelRecords (u8 q 0)).any (fun k =>
          ((s.slot k).spanAt (u8 q 1) (u8 q 2) (u8 q 3)).any (s.claimedElsewhere (u8 q 0))) then .refuse .collide
      else .goesOn (panelMove m (u8 q 0) e (u8 q 1) (u8 q 2) (u8 q 3) s)

/-- PANEL_MOVE (R119, R120). -/
def execPanelMove (s : State) : Step := .next (runCommand .panelMove panelMoveBody s)

/-- A vacating write at its grant (R121): carried out, and the claim released, when the entry still names the record. -/
def State.vacate (s : State) (k : Nat) (w : CellWrite) : State :=
  if s.claim w.cell = some k then (s.writeCell w).setClaim w.cell none else s

/-- VACATE_WRITE_GRANT (R121, R156): after the record's last write it is re-anchored, claimed and made due, and the move goes on to
the next record. -/
def execVacateWriteGrant (s : State) : Step :=
  match s.mdc with
  | .moving m p cleared k (w :: ws) rest =>
    if s.grantsMdc then
      let t := (s.vacate k w).setMark .mdc
      if ws.isEmpty then .next (moveNext m p cleared rest (t.reclaim k))
      else .next { t with mdc := .moving m p cleared k ws rest }
    else .next s
  | _ => .next s

end Sys2Proof.Machine
end

