-- ==== Sys2Proof/Machine/ReadBack.lean ====
section
/-!
DEFINITION. The two read-back commands LOOKUP and PROBE (sections 2.8 and 2.9).
-/

namespace Sys2Proof.Machine

/-- The 21 data bytes of an OK reply to LOOKUP (R43, Table 1-9). -/
def lookupBytes (lead count : Nat) (r : Record) : List Byte :=
  bytes16 lead ++ [byte count, flagsA r] ++ bytesOpt r.current ++ bytesOpt r.previous ++ [byte r.direction.number]
    ++ bytesOpt r.suspectValue ++ [byte r.holdCount, byte r.band.number, byte r.highlight.number, byte r.age]

def lookupBody (m : Message) (s : State) : Verdict :=
  let p := m.params
  if !instrumentOk (u24 p 0) then .refuse .badArg
  else
    match Kind.ofNumber (u8 p 3) with
    | none => .refuse .badArg
    | some kind =>
      match s.mirrors (u24 p 0) kind with
      | [] => .refuse .notFound
      | lead :: others => .done s (lookupBytes lead (others.length + 1) (s.slot lead))

/-- LOOKUP (R42, R43). -/
def execLookup (s : State) : Step := .next (runCommand .lookup lookupBody s)

/-- The flash mask as a 16-bit quantity: bit i is span position i (Table 1-8). -/
def maskNumber (mask : List Nat) : Nat :=
  ((List.range 16).map (fun i => if mask.contains i then 2 ^ i else 0)).sum

/-- The data bytes of an OK reply to PROBE of a LIVE or RETIRING slot (R45, Table 1-9): 58, then the painted image. -/
def probeBytes (r : Record) : List Byte :=
  [byte r.state.number] ++ bytes24 r.instrument
    ++ [byte r.kind.number, byte r.panel, byte r.rowOffset, byte r.colOffset, byte r.page, byte r.row, byte r.col, byte r.width]
    ++ r.settings.format.bytes ++ [byte r.settings.bandMode.number] ++ bytesS32 r.settings.lo ++ bytesS32 r.settings.hi
    ++ bytesS32 r.settings.filter ++ [flagsA r, flagsB r] ++ bytesOpt r.current ++ bytesOpt r.previous
    ++ [byte r.direction.number] ++ bytesOpt r.reference ++ bytesOpt r.lastOperand ++ bytesOpt r.suspectValue
    ++ [byte r.holdCount, byte r.band.number, byte r.highlight.number, byte r.age] ++ bytes16 (maskNumber r.mask)
    ++ r.image.getD []

def probeBody (m : Message) (s : State) : Verdict :=
  let k := u16 m.params 0
  if 1023 < k then .refuse .badArg
  else
    match (s.slot k).state with
    | .free => .done s [byte SlotState.free.number]
    | .live => .done s (probeBytes (s.slot k))
    | .retiring => .done s (probeBytes (s.slot k))

/-- PROBE (R44, R45). -/
def execProbe (s : State) : Step := .next (runCommand .probe probeBody s)

end Sys2Proof.Machine
end

