-- ==== Sys2Proof/Machine/StaticText.lean ====
section
/-!
DEFINITION. Static text: TEXT and FILL and the grants of their writes (section 10.2).
-/

namespace Sys2Proof.Machine

/-- What a TEXT or FILL writes into: the page and the page coordinates of its top left cell, and its size.  The absolute form's
target is the whole page; the panel form's is the panel's rectangle. -/
structure TextTarget where
  page : Nat
  row : Nat
  col : Nat
  height : Nat
  width : Nat
  deriving DecidableEq, Repr

/-- The target named by the text target byte and the page byte (Table 10-1, checks 1 to 3). -/
def textTarget (s : State) (target page : Nat) : Except Result TextTarget :=
  if target = 255 then
    if page ≤ 3 then .ok { page := page, row := 0, col := 0, height := 50, width := 132 } else .error .badArg
  else if 31 < target then .error .badArg
  else
    match s.panel target with
    | none => .error .noPanel
    | some e => .ok { page := e.page, row := e.row, col := e.col, height := e.height, width := e.width }

/-- The cell at (r, c) of the target, in page coordinates (R174). -/
def TextTarget.cell (t : TextTarget) (r c : Nat) : Nat := cellNumber t.page (t.row + r) (t.col + c)

/-- TEXT's cell list (R174): the characters clipped at the right edge of the target. -/
def textWrites (t : TextTarget) (r c attr : Nat) (chars : List Byte) : List CellWrite :=
  (List.range (min chars.length (t.width - c))).map (fun i =>
    { cell := t.cell r (c + i), char := chars.getD i 0x20, attr := attr })

/-- FILL's cell list (R175): the rectangle clipped at the bottom and right edges, row by row, left to right. -/
def fillWrites (t : TextTarget) (r c h w attr : Nat) (char : Byte) : List CellWrite :=
  (List.range (min h (t.height - r))).flatMap (fun i =>
    (List.range (min w (t.width - c))).map (fun j => { cell := t.cell (r + i) (c + j), char := char, attr := attr }))

/-- MDC presents the writes of a list; with none to present the execution would end at once. -/
def startWriting (m : Message) (ws : List CellWrite) (s : State) : Verdict :=
  match ws with
  | [] => .done s []
  | _ => .goesOn { s with mdc := .writing m ws }

/-- TEXT's checks in the order of Table 10-1, and its cell list (R173, R174). -/
def textBody (m : Message) (s : State) : Verdict :=
  let p := m.params
  match textTarget s (u8 p 0) (u8 p 1) with
  | .error r => .refuse r
  | .ok t =>
    if t.height ≤ u8 p 2 ∨ t.width ≤ u8 p 3 then .refuse .badArg
    else if 63 < u8 p 4 then .refuse .badArg
    else startWriting m (textWrites t (u8 p 2) (u8 p 3) (u8 p 4) (p.drop 5)) s

/-- TEXT (R173, R174). -/
def execText (s : State) : Step := .next (runCommand .text textBody s)

/-- FILL's checks in the order of Table 10-1, and its cell list (R173, R175). -/
def fillBody (m : Message) (s : State) : Verdict :=
  let p := m.params
  match textTarget s (u8 p 0) (u8 p 1) with
  | .error r => .refuse r
  | .ok t =>
    if t.height ≤ u8 p 2 ∨ t.width ≤ u8 p 3 then .refuse .badArg
    else if u8 p 4 < 1 ∨ u8 p 5 < 1 then .refuse .badArg
    else if 63 < u8 p 7 then .refuse .badArg
    else startWriting m (fillWrites t (u8 p 2) (u8 p 3) (u8 p 4) (u8 p 5) (u8 p 7) (p.getD 6 0)) s

/-- FILL (R173, R175). -/
def execFill (s : State) : Step := .next (runCommand .fill fillBody s)

/-- A TEXT or FILL write at its grant: carried out into an unclaimed cell, else dropped (R176). -/
def State.textWrite (s : State) (w : CellWrite) : State := if s.claim w.cell = none then s.writeCell w else s

/-- TEXT_WRITE_GRANT (R176, R156): the last grant ends the command's execution. -/
def execTextWriteGrant (s : State) : Step :=
  match s.mdc with
  | .writing m (w :: ws) =>
    if s.grantsMdc then
      let t := (s.textWrite w).setMark .mdc
      if ws.isEmpty then .next (t.endExecution m.code .ok [])
      else .next { t with mdc := .writing m ws }
    else .next s
  | _ => .next s

end Sys2Proof.Machine
end

