-- ==== Sys2Proof/Machine/Status.lean ====
section
/-!
DEFINITION. The Status Unit's commands STATUS and CONFIG (chapter 11).
-/

namespace Sys2Proof.Machine

/-! ## STATUS (R187) -/

/-- The 15 data bytes of the STATUS reply (Table 11-2, Table 1-9). -/
def statusBytes (s : State) : List Byte :=
  [s.stu.sticky, byte s.alerts.length] ++ bytes16 s.ptr.queue.length ++ [byte s.agu.owed] ++ bytes16 s.ftb.liveCount
    ++ bytes16 s.ftb.retiringCount ++ bytes16 s.ftb.freeCount
    ++ [byte s.dou.shown, byte (s.dou.pendingPage.getD 255), flagByte s.dou.pattern, byte s.lki.unitAddress.toNat]

/-- STATUS reports, then clears the sticky flags its mask names (R187). -/
def statusBody (m : Message) (s : State) : Verdict :=
  .done { s with stu := { s.stu with sticky := s.stu.sticky &&& ~~~ (m.params.getD 0 0) } } (statusBytes s)

/-- STATUS (R187). -/
def execStatus (s : State) : Step := .next (runCommand .status statusBody s)

/-! ## CONFIG (R167, R189, R190) -/

/-- CONFIG's one check is that of the alert notice enable; Ff, Fa and the threshold are clamped (R167, R189). -/
def configBody (m : Message) (s : State) : Verdict :=
  let p := m.params
  if 1 < u8 p 6 then .refuse .badArg
  else
    .done { s with
      agu := { s.agu with flashFrames := max 1 (u8 p 0), alertFrames := max 1 (u8 p 1), threshold := min 1023 (u16 p 2) }
      lki := { s.lki with replyGap := u8 p 4 }
      stu := { s.stu with flagEnables := p.getD 5 0, alertEnable := u8 p 6 == 1 } } []

/-- CONFIG (R189). -/
def execConfig (s : State) : Step := .next (runCommand .config configBody s)

end Sys2Proof.Machine
end

