-- ==== Sys2Proof/Machine/Dispatch.lean ====
section
/-! DEFINITION. The dispatch: one arm for each command of `Instr`, in the order of the opcode table. -/

namespace Sys2Proof.Machine
open Host

-- The effect of a command on everything but the queue of waiting commands.
def exec (i : Instr) (s : State) : Host.Outcome State Fault Refusal :=
  match i with
  | .powerOnReset => Sys2Proof.Machine.execPowerOnReset s
  | .resetRelease strap => Sys2Proof.Machine.execResetRelease strap s
  | .settleEnd => Sys2Proof.Machine.execSettleEnd s
  | .addressCharacter value parity stop => Sys2Proof.Machine.execAddressCharacter value parity stop s
  | .dataCharacter value parity stop => Sys2Proof.Machine.execDataCharacter value parity stop s
  | .breakEvent => Sys2Proof.Machine.execBreak s
  | .assemblerTake => Sys2Proof.Machine.execAssemblerTake s
  | .discardNoticeTake => Sys2Proof.Machine.execDiscardNoticeTake s
  | .unknownCommand => Sys2Proof.Machine.execUnknownCommand s
  | .replyStart highTime => Sys2Proof.Machine.execReplyStart highTime s
  | .replyEnd => Sys2Proof.Machine.execReplyEnd s
  | .bind => Sys2Proof.Machine.execBind s
  | .amend => Sys2Proof.Machine.execAmend s
  | .retire => Sys2Proof.Machine.execRetire s
  | .lookup => Sys2Proof.Machine.execLookup s
  | .probe => Sys2Proof.Machine.execProbe s
  | .tick => Sys2Proof.Machine.execTick s
  | .qtick => Sys2Proof.Machine.execQtick s
  | .refer => Sys2Proof.Machine.execRefer s
  | .extremesClear => Sys2Proof.Machine.execExtremesClear s
  | .stale => Sys2Proof.Machine.execStale s
  | .alerts => Sys2Proof.Machine.execAlerts s
  | .panelOpen => Sys2Proof.Machine.execPanelOpen s
  | .panelClose => Sys2Proof.Machine.execPanelClose s
  | .panelFreeze => Sys2Proof.Machine.execPanelFreeze s
  | .panelThaw => Sys2Proof.Machine.execPanelThaw s
  | .panelMove => Sys2Proof.Machine.execPanelMove s
  | .vacateWriteGrant => Sys2Proof.Machine.execVacateWriteGrant s
  | .attrSet => Sys2Proof.Machine.execAttrSet s
  | .schemeSet => Sys2Proof.Machine.execSchemeSet s
  | .schemeSwap => Sys2Proof.Machine.execSchemeSwap s
  | .text => Sys2Proof.Machine.execText s
  | .fill => Sys2Proof.Machine.execFill s
  | .textWriteGrant => Sys2Proof.Machine.execTextWriteGrant s
  | .showPage => Sys2Proof.Machine.execShow s
  | .pattern => Sys2Proof.Machine.execPattern s
  | .glyphLoad => Sys2Proof.Machine.execGlyphLoad s
  | .status => Sys2Proof.Machine.execStatus s
  | .config => Sys2Proof.Machine.execConfig s
  | .sync => Sys2Proof.Machine.execSync s
  | .painterTake => Sys2Proof.Machine.execPainterTake s
  | .paintWriteGrant => Sys2Proof.Machine.execPaintWriteGrant s
  | .clearWriteGrant => Sys2Proof.Machine.execClearWriteGrant s
  | .frameStart => Sys2Proof.Machine.execFrameStart s
  | .rowRead => Sys2Proof.Machine.execRowRead s
  | .sweep => Sys2Proof.Machine.execSweep s
  | .startBitFall => Sys2Proof.Machine.execStartBitFall s
  | .falseStart => Sys2Proof.Machine.execFalseStart s
  | .awaitHighExit => Sys2Proof.Machine.execAwaitHighExit s
  | .replyCutShort => Sys2Proof.Machine.execReplyCutShort s

end Sys2Proof.Machine
end

