-- ==== Sys2Proof/WellFormed.lean ====
section
/-!
DEFINITION. Which terms are well formed.  Every operand of a command has a type that holds exactly the values the spec gives
it (a byte, a sampled bit, four strap pins, a number of bit times), so every command is well formed as it stands.  A message is
well formed when its length fits the length byte's range 0..60 (section 1.4, R8).
-/

namespace Sys2Proof

/-- A message carries at most 60 parameter bytes: LKI accepts no length byte above 60 (R8, R9). -/
def Message.wf (m : Message) : Bool := m.params.length ≤ 60

/-- Every command's operands lie in their ranges by their types; one line per constructor, so that a command added later must
be given its check. -/
def Instr.wf (i : Instr) : Bool :=
  match i with
  | .powerOnReset => true
  | .resetRelease _ => true
  | .settleEnd => true
  | .addressCharacter _ _ _ => true
  | .dataCharacter _ _ _ => true
  | .breakEvent => true
  | .assemblerTake => true
  | .discardNoticeTake => true
  | .unknownCommand => true
  | .replyStart _ => true
  | .replyEnd => true
  | .bind => true
  | .amend => true
  | .retire => true
  | .lookup => true
  | .probe => true
  | .tick => true
  | .qtick => true
  | .refer => true
  | .extremesClear => true
  | .stale => true
  | .alerts => true
  | .panelOpen => true
  | .panelClose => true
  | .panelFreeze => true
  | .panelThaw => true
  | .panelMove => true
  | .vacateWriteGrant => true
  | .attrSet => true
  | .schemeSet => true
  | .schemeSwap => true
  | .text => true
  | .fill => true
  | .textWriteGrant => true
  | .showPage => true
  | .pattern => true
  | .glyphLoad => true
  | .status => true
  | .config => true
  | .sync => true
  | .painterTake => true
  | .paintWriteGrant => true
  | .clearWriteGrant => true
  | .frameStart => true
  | .rowRead => true
  | .sweep => true
  | .startBitFall => true
  | .falseStart => true
  | .awaitHighExit => true
  | .replyCutShort => true

end Sys2Proof
end

