-- ==== Sys2Proof/Safety.lean ====
section
/-!
DEFINITION. The terms that statements about the part are made in: when MDC may take a message, what a finished execution leaves,
and what a sound state is, the promises the manual makes about every moment of the part's life.
-/

namespace Sys2Proof.Machine

/-! ## Messages: what MDC finds and what it leaves (R12 to R15) -/

/-- MDC may take `m` as command `c` at once: the part runs, MDC is IDLE, LKI holds `m` with reply flag `reply`, the code of `m` is
that of `c`, and the reply queue has room when the flag is set (R12). -/
structure State.Ready (s : State) (c : Command) (m : Message) (reply : Bool) : Prop where
  running : s.resetLow = false
  idle : s.mdc = .idle
  held : s.lki.held = some (.message m reply)
  code : m.code = c.code
  room : reply = true → s.lki.replies.length < 4

/-- The state with the message out of LKI's hold and its reply flag in the reply-owed mark (R12). -/
def State.taken (s : State) (reply : Bool) : State :=
  { s with lki := { s.lki with held := none, replyOwed := reply } }

/-- The state an execution leaves that ends with result `r` at the take of `m`: nothing held, MDC IDLE, the reply-owed mark clear
and, when the message carried the reply flag, its reply at the tail of the reply queue (R12, R14, R15). -/
def State.answered (t : State) (m : Message) (reply : Bool) (r : Result) (data : List Byte) : State :=
  { t with
    mdc := .idle
    lki := { t.lki with
      held := none
      replyOwed := false
      replies := if reply then t.lki.replies ++ [replyOf m.code r data] else t.lki.replies } }

/-- The step in which MDC takes a message of a command. -/
def Command.instr : Command → Instr
  | .bind => .bind | .amend => .amend | .retire => .retire | .lookup => .lookup | .probe => .probe
  | .tick => .tick | .qtick => .qtick | .refer => .refer | .extremesClear => .extremesClear | .stale => .stale
  | .alerts => .alerts | .panelOpen => .panelOpen | .panelClose => .panelClose | .panelFreeze => .panelFreeze
  | .panelThaw => .panelThaw | .panelMove => .panelMove | .attrSet => .attrSet | .schemeSet => .schemeSet
  | .schemeSwap => .schemeSwap | .text => .text | .fill => .fill | .showPage => .showPage | .pattern => .pattern
  | .glyphLoad => .glyphLoad | .status => .status | .config => .config | .sync => .sync

/-- The refusal of the first check of a list that fails; `none` when all of them pass (R13).  A check is the condition under which
it fails and the result it then gives. -/
def firstRefusal : List (Bool × Result) → Option Result
  | [] => none
  | (fails, r) :: rest => if fails then some r else firstRefusal rest

/-- The parameter lengths L of Table 1-9. -/
def tableLengths : Command → List Nat
  | .bind => [25] | .amend => [19] | .retire => [2] | .lookup => [4] | .probe => [2]
  | .tick => [8] | .qtick => [9, 13, 17, 21] | .refer => [8] | .extremesClear => [3] | .stale => [3] | .alerts => [1]
  | .panelOpen => [7] | .panelClose => [1] | .panelFreeze => [1] | .panelThaw => [1] | .panelMove => [4]
  | .attrSet => [4] | .schemeSet => [3] | .schemeSwap => [0]
  | .text => List.range' 6 54 | .fill => [8] | .showPage => [1] | .pattern => [1] | .glyphLoad => [15]
  | .status => [1] | .config => [7] | .sync => [0]

/-- The number that three bytes of a message spell, the first the most significant (R20). -/
def number24 (a b c : Byte) : Nat := a.toNat * 65536 + b.toNat * 256 + c.toNat

/-- The signed value that four bytes of a message spell in two's complement (R20). -/
def signed32 (a b c d : Byte) : Int := (a ++ b ++ c ++ d : BitVec 32).toInt

/-! ## Assembly (R8 to R10) -/

/-- What the take of entry `e` makes of the assembler: its next state, what it then holds for MDC, and the sticky flag it raises
(R8, R9, R10). -/
def assembled (a : Assembler) (e : InEntry) : Assembler × Option HeldItem × Byte :=
  let bad := e.parityError || e.framingError
  match a with
  | .waitCode =>
    (.waitLength { code := e.value, length := 0, params := [], sum := e.value, reply := e.reply, gapSeen := e.gap
                   lineSeen := bad }, none, 0)
  | .waitLength m =>
    if bad || e.gap || 60 < e.value.toNat then (.skip, none, 0x08)
    else if e.value.toNat = 0 then (.waitCheck { m with length := 0, sum := m.sum + e.value }, none, 0)
    else (.params { m with length := e.value.toNat, sum := m.sum + e.value }, none, 0)
  | .params m =>
    let m' := { m with params := m.params ++ [e.value], sum := m.sum + e.value, gapSeen := m.gapSeen || e.gap
                       lineSeen := m.lineSeen || bad }
    (if m.params.length + 1 < m.length then .params m' else .waitCheck m', none, 0)
  | .waitCheck m =>
    if m.gapSeen || e.gap then (.waitCode, some (.notice m.code .overrun m.reply), 0x01)
    else if m.lineSeen || bad then (.waitCode, some (.notice m.code .line m.reply), 0x02)
    else if m.sum + e.value ≠ 0 then (.waitCode, some (.notice m.code .check m.reply), 0x04)
    else (.waitCode, some (.message { code := m.code, params := m.params } m.reply), 0)
  | .skip => (.skip, none, 0)

/-! ## Becoming due (R140, R141) -/

/-- The slots of `due` in the order in which a group joins the field queue, ascending and each once (R141). -/
def ascending (due : List Nat) : List Nat := allSlots.filter (fun k => due.contains k)

/-- A record that becomes due joins the field queue: one of the 1024 slots, not in the queue, and not a LIVE record of a FROZEN panel
(R140). -/
def State.joins (s : State) (k : Nat) : Bool :=
  k < 1024 && !(s.slot k).queued && !(s.isLive k && s.isFrozen (s.slot k).panel)

/-- A record that becomes due has its due flag set instead: LIVE, not queued, its panel FROZEN (R140). -/
def State.waits (s : State) (k : Nat) : Bool :=
  k < 1024 && !(s.slot k).queued && (s.isLive k && s.isFrozen (s.slot k).panel)

/-- Record `x`, a changed record of slot `k`, after it has become due in state `s` (R140). -/
def State.madeDue (s : State) (k : Nat) (x : Record) : Record :=
  { x with queued := x.queued || s.joins k, due := x.due || s.waits k }

/-- The field queue after the records of `due` have become due as one group (R140, R141). -/
def State.queueWith (s : State) (due : List Nat) : List Nat := s.ptr.queue ++ (ascending due).filter s.joins

/-! ## The checks of BIND and AMEND (Table 3-3, R51, R60) -/

/-- The format descriptor's checks: mode, source precision in the range of its mode, options (R51). -/
def formatChecks (p : List Byte) (i : Nat) : List (Bool × Result) :=
  [(2 < u8 p i, .badArg),
   (u8 p i = 0 ∧ 6 < u8 p (i + 1) ∨ u8 p i = 1 ∧ (u8 p (i + 1) = 0 ∨ 8 < u8 p (i + 1)) ∨ u8 p i = 2 ∧ u8 p (i + 1) ≠ 0, .badArg),
   (15 < u8 p (i + 3), .badArg)]

/-- The checks of the settings that stand at offset `i`: descriptor (4), band mode (1), Lo (4), Hi (4), filter limit (4). -/
def settingsChecks (p : List Byte) (i : Nat) : List (Bool × Result) :=
  formatChecks p i ++
    ([(2 < u8 p (i + 4), .badArg), (s32 p (i + 13) < 0, .badArg), (s32 p (i + 9) < s32 p (i + 5), .badBand)] :
      List (Bool × Result))

/-- The checks of BIND in the order of Table 3-3 (R50). -/
def bindChecks (s : State) (p : List Byte) : List (Bool × Result) :=
  ([(u24 p 0 = 0 ∨ 1048575 < u24 p 0, .badArg), (6 < u8 p 3, .badArg), (31 < u8 p 4, .badArg),
    (u8 p 7 = 0 ∨ 16 < u8 p 7, .badArg)] : List (Bool × Result)) ++ settingsChecks p 8 ++
  ([((s.panel (u8 p 4)).isNone, .noPanel),
   ((s.panel (u8 p 4)).any (fun e => e.height ≤ u8 p 5 ∨ e.width < u8 p 6 + u8 p 7), .outside),
   ((Kind.ofNumber (u8 p 3)).any (fun kind => 4 ≤ (s.mirrors (u24 p 0) kind).length), .mirrors),
   (allSlots.all (fun k => (s.slot k).state != .free), .noSlot),
   ((s.panel (u8 p 4)).any (fun e =>
     (spanCells e.page (e.row + u8 p 5) (e.col + u8 p 6) (u8 p 7)).any s.claimedLive), .collide)] : List (Bool × Result))

/-- The settings at offset `i` as they are stored, the display precision clamped to the source precision (R51). -/
def storedSettings (p : List Byte) (i : Nat) : Settings :=
  { format :=
      { mode := if u8 p i = 0 then .dec else if u8 p i = 1 then .frac else .count
        source := u8 p (i + 1), display := min (u8 p (i + 2)) (u8 p (i + 1))
        signAlways := (p.getD (i + 3) 0).getLsbD 0, fillZero := (p.getD (i + 3) 0).getLsbD 1
        degrade := (p.getD (i + 3) 0).getLsbD 2, digits := (p.getD (i + 3) 0).getLsbD 3 }
    bandMode := if u8 p (i + 4) = 0 then .off else if u8 p (i + 4) = 1 then .inside else .outside
    lo := s32 p (i + 5), hi := s32 p (i + 9), filter := (s32 p (i + 13)).toNat }

/-! ## Values and bands (R71 to R90) -/

/-- The band state of a record (R86). -/
def Record.bandState (r : Record) : BandState :=
  match r.current with
  | none => .unset
  | some v =>
    if r.settings.bandMode = .off then .unset
    else if v < r.settings.lo then .below
    else if v ≤ r.settings.hi then .within
    else .above

/-- The alert condition of a record (R86). -/
def Record.inAlert (r : Record) : Bool :=
  r.settings.bandMode == .inside && r.bandState == .within
    || r.settings.bandMode == .outside && (r.bandState == .below || r.bandState == .above)

/-- The band evaluation of a record is a crossing: its alert condition is true and its alert flag was clear (R86). -/
def Record.crosses (r : Record) : Bool := r.inAlert && !r.alert

/-- The record after band evaluation (R86, R87, R88). -/
def Record.evaluated (r : Record) (alertFrames : Nat) : Record :=
  { r with
    band := r.bandState, alert := r.inAlert
    highlight := if r.crosses then .alert else r.highlight
    age := if r.crosses then alertFrames else r.age }

/-- The class of a value set against the value it replaces (R74). -/
def changeClass (old : Option Int) (v : Int) : Direction :=
  match old with
  | none => .first
  | some c => if v > c then .up else if v < c then .down else .same

/-- The record with an accepted value applied, before its band evaluation (R75, R76). -/
def Record.taking (r : Record) (v : Int) (direction : Direction) (flashFrames : Nat) : Record :=
  { r with
    previous := if r.current = none then r.previous else r.current
    current := some v, direction := direction, stale := false, newValue := true
    highlight := if r.highlight = .alert ∧ 0 < r.age then .alert else .tick
    age := if r.highlight = .alert ∧ 0 < r.age then r.age else flashFrames }

/-- The entry a crossing of slot `k` makes, its record being `r` after evaluation (R89). -/
def crossingEntry (k : Nat) (r : Record) : AlertEntry :=
  { slot := k, instrument := r.instrument, kind := r.kind, band := r.bandState, value := r.current.getD 0 }

/-- The alert list with an entry for a crossing: in place when the slot has one, else after the newest while there is room (R90). -/
def entered (es : List AlertEntry) (e : AlertEntry) : List AlertEntry :=
  if es.any (fun x => x.slot == e.slot) then es.map (fun x => if x.slot = e.slot then e else x)
  else if es.length < 16 then es ++ [e]
  else es

/-- The crossing is lost: no entry for the slot and the list full (R90). -/
def lost (es : List AlertEntry) (e : AlertEntry) : Bool := !es.any (fun x => x.slot == e.slot) && 16 ≤ es.length

/-- The alert list and the sticky flags after several crossings, in the order given (R87, R90). -/
def crossings : List AlertEntry → List AlertEntry → Byte → List AlertEntry × Byte
  | [], es, sticky => (es, sticky)
  | e :: rest, es, sticky => crossings rest (entered es e) (sticky ||| if lost es e then 0x40 else 0)

/-- V − reference, kept within ±2,147,483,647 (R79). -/
def saturated (v : Int) : Int := if v < -2147483647 then -2147483647 else if 2147483647 < v then 2147483647 else v

/-- The value a tick is judged and applied with (R69). -/
def clamped (kind : Kind) (v : Int) : Int :=
  if kind = .size ∧ v < 0 then 0 else if v = -2147483648 then -2147483647 else v

/-- The record with the guard cleared by an accepted tick of its key (R73); `isLead` says whether it is the lead. -/
def Record.guardCleared (r : Record) (isLead : Bool) : Record :=
  { r with
    suspect := false
    suspectValue := if isLead then none else r.suspectValue
    holdCount := if isLead then 0 else r.holdCount }

/-- An accepted LAST value `v` sets the current value of the record in slot `k` (R75, R79, R80). -/
def State.tradeSets (s : State) (v : Int) (k : Nat) : Bool :=
  let r := s.slot k
  match r.kind with
  | .last => true
  | .net => r.reference.isSome
  | .high => r.current.all (fun c => c < v)
  | .low => r.current.all (fun c => v < c)
  | _ => false

/-- The record in slot `k` with an accepted LAST value `v` applied or fanned out to it, before its band evaluation (R73, R75, R79, R80,
R81).  `direction` is the class of the tick on the LAST key. -/
def State.traded (s : State) (v : Int) (direction : Direction) (k : Nat) : Record :=
  let r := if (s.slot k).kind = .net then { s.slot k with lastOperand := some v } else s.slot k
  if s.tradeSets v k then
    match r.kind with
    | .last => (r.guardCleared (s.lead r.instrument .last == some k)).taking v direction s.agu.flashFrames
    | .net =>
      let w := saturated (v - r.reference.getD 0)
      r.taking w (changeClass r.current w) s.agu.flashFrames
    | _ => r.taking v (changeClass r.current v) s.agu.flashFrames
  else { r with stale := false }

/-- A TICK highlight ended, any other kept (R32, R83, R84). -/
def Record.tickEnded (r : Record) : Record :=
  { r with
    highlight := if r.highlight = .tick then .off else r.highlight
    age := if r.highlight = .tick then 0 else r.age
    mask := if r.highlight = .tick then [] else r.mask }

/-- A NET record with a new reference, before its band evaluation (R83, steps 1 to 5). -/
def Record.withReference (r : Record) (reference : Option Int) : Record :=
  let value := match reference, r.lastOperand with
    | some a, some l => some (saturated (l - a))
    | _, _ => none
  { r.tickEnded with
    reference := reference
    current := value
    previous := if r.current = none then r.previous else r.current
    newValue := if r.current = none ∧ value = none then r.newValue else true
    direction := if value = none then .unset else .first }

/-- A HIGH or LOW record restarted, before its band evaluation (R84, steps 1 to 4). -/
def Record.restartedAt (r : Record) (value : Option Int) : Record :=
  { r.tickEnded with
    current := value
    previous := none
    newValue := if r.current = none ∧ value = none then r.newValue else true
    direction := if value = none then .unset else .first }

/-! ## Painting (R129 to R134) -/

/-- The number of the condition that Table 7-3 chooses for position `i` of a record with flash mask `mask` (R129, R131). -/
def chosenCondition (r : Record) (overflow : Bool) (mask : List Nat) (i : Nat) : Nat :=
  let step := match r.direction with
    | .unset => 0 | .first => 0 | .up => 1 | .down => 2 | .same => 3
  if r.stale then 13
  else if overflow then 14
  else if r.suspect then 12
  else if r.highlight = .alert ∧ 0 < r.age then 10
  else if r.highlight = .tick ∧ 0 < r.age then (if i ∈ mask then 5 + step else 9)
  else if r.alert then 11
  else if r.current = none then 0
  else 1 + step

/-- Position `i` is in the flash mask a job forms for a record whose new string is `str` (R132, R133, R134). -/
def inNewMask (r : Record) (str : List Byte) (overflow : Bool) (i : Nat) : Prop :=
  i < r.width ∧ r.highlight ≠ .off ∧ r.age ≠ 0 ∧
    (r.settings.format.digits = false ∨ overflow = true ∨ r.current = none ∨
      match r.image with
      | none => True
      | some old => (∀ c ∈ old, c = 0x23) ∨ (∀ c ∈ old, c = 0x20) ∨ str.getD i 0 ≠ old.getD i 0)

/-- The end of an execution of `m` with result OK and no data (R14): MDC IDLE, the reply-owed mark cleared, the reply appended when it
was set. -/
def State.finished (t : State) (m : Message) : State :=
  { t with
    mdc := .idle
    lki := { t.lki with
      replyOwed := false
      replies := if t.lki.replyOwed then t.lki.replies ++ [replyOf m.code .ok []] else t.lki.replies } }

/-! ## Static text and drawing (R173, R181, R183) -/

/-- The area that a text target byte and a page byte name (section 10.2): a whole page, or a panel's rectangle. -/
def State.textArea (s : State) (target page : Nat) : TextTarget :=
  if target = 255 then { page := page, row := 0, col := 0, height := 50, width := 132 }
  else
    match s.panel target with
    | some e => { page := e.page, row := e.row, col := e.col, height := e.height, width := e.width }
    | none => { page := 0, row := 0, col := 0, height := 0, width := 0 }

/-- The checks of TEXT and FILL up to the start position, in the order of Table 10-1. -/
def targetChecks (s : State) (target page row col : Nat) : List (Bool × Result) :=
  [(31 < target ∧ target ≠ 255, .badArg), (target = 255 ∧ 3 < page, .badArg),
   (target ≤ 31 ∧ (s.panel target).isNone, .noPanel),
   ((s.textArea target page).height ≤ row ∨ (s.textArea target page).width ≤ col, .badArg)]

/-- The colour of pixel `x` of glyph row `line` of a cell at (row, col) of the shown page (R179, R183). -/
def Dou.drawnColour (d : Dou) (c : Cell) (row col line x : Nat) : BitVec 4 :=
  let a := Table.get Attr.initial d.frameAttrs c.attr
  let fore := if a.reverse then a.background else a.foreground
  let back := if a.reverse then a.foreground else a.background
  let litAt := fun i => (d.glyphRow c.char line).getLsbD (7 - i)
  if d.pattern then (if (row + col) % 2 = 0 then 15 else 0)
  else if a.blink ∧ 16 ≤ d.blink then back
  else if litAt x ∨ a.bold ∧ 1 ≤ x ∧ litAt (x - 1) ∨ a.underline ∧ line = 13 then fore
  else back

/-- The output levels of a colour number: 2 for a component's bit, 1 for the intensity bit (R183). -/
def outputLevels (c : BitVec 4) : Rgb :=
  let level := fun i => 2 * (c.getLsbD i).toNat + (c.getLsbD 3).toNat
  { red := level 2, green := level 1, blue := level 0 }

/-- The number that a string of decimal digits spells. -/
def spelled (digits : List Byte) : Nat := digits.foldl (fun n d => 10 * n + (d.toNat - 48)) 0

/-! ## The sound state -/

/-- Every table lists its entries in rising order and none equal to what an unlisted entry reads as. -/
structure State.TablesCanonical (s : State) : Prop where
  slots : Table.wf Record.empty s.ftb.slots = true
  chains : Table.wf [] s.ftb.chains = true
  claims : Table.wf none s.ftb.claims = true
  panels : Table.wf none s.panels = true
  attrs : Table.wf Attr.initial s.atu.attrs = true
  bankA : Table.wf 0 s.atu.bankA = true
  bankB : Table.wf 0 s.atu.bankB = true
  cells : Table.wf Cell.blank s.cst.cells = true
  glyphs : Table.wf blankGlyph s.dou.glyphs = true
  frameAttrs : Table.wf Attr.initial s.dou.frameAttrs = true
  frameGlyphs : Table.wf blankGlyph s.dou.frameGlyphs = true

/-- The message being assembled: fewer parameters than its length byte while they are awaited, all of them at the check byte, and
a length of 0..60 (R8). -/
def Assembler.Sound : Assembler → Prop
  | .waitCode => True
  | .waitLength m => m.params = []
  | .params m => m.params.length < m.length ∧ m.length ≤ 60
  | .waitCheck m => m.params.length = m.length ∧ m.length ≤ 60
  | .skip => True

/-- The reply flag of the message being assembled. -/
def Assembler.reply : Assembler → Bool
  | .waitCode => false
  | .waitLength m => m.reply
  | .params m => m.reply
  | .waitCheck m => m.reply
  | .skip => false

/-- A held message has at most 60 parameters (R8). -/
def HeldItem.Sound : HeldItem → Prop
  | .message m _ => m.wf = true
  | .notice _ _ _ => True

/-- The link side of the part, LKI with MDC's reply-owed mark. -/
structure State.LinkSound (s : State) : Prop where
  /-- R6 -/
  inbound : s.lki.inbound.length ≤ 64
  /-- R15 -/
  replies : s.lki.replies.length ≤ 4
  /-- The room found at the take is still there at the end (R12). -/
  owed : s.lki.replyOwed = true → s.mdc ≠ .idle ∧ s.lki.replies.length < 4
  /-- R8 -/
  assembling : s.lki.assembler.Sound
  held : ∀ h, s.lki.held = some h → h.Sound
  /-- A reply being sent is at the head of the queue (R16). -/
  sending : ∀ bits, s.lki.tx = .sending bits → ∃ chars rest, s.lki.replies = chars :: rest ∧ bits = replyLevels chars
  /-- R17 -/
  gap : s.lki.replyGap ≤ 255
  /-- Out of LOUD nothing carries a reply flag and no reply waits to begin (R5, R12). -/
  onlyLoudReplies : s.lki.selection ≠ .loud →
    (∀ e ∈ s.lki.inbound, e.reply = false) ∧ s.lki.assembler.reply = false
      ∧ (∀ h, s.lki.held = some h → h.reply = false) ∧ s.lki.replyOwed = false ∧ s.lki.replies = s.lki.begunReplies

/-- The counts and settings that stay in a range (R89, R161, R178, R180, R182). -/
structure State.Bounded (s : State) : Prop where
  alerts : s.alerts.length ≤ 16
  owed : s.agu.owed ≤ 8
  flashFrames : 1 ≤ s.agu.flashFrames ∧ s.agu.flashFrames ≤ 255
  alertFrames : 1 ≤ s.agu.alertFrames ∧ s.agu.alertFrames ≤ 255
  threshold : s.agu.threshold ≤ 1023
  shown : s.dou.shown ≤ 3
  pendingPage : ∀ p, s.dou.pendingPage = some p → p ≤ 3
  blink : s.dou.blink ≤ 31
  nextRow : ∀ r, s.dou.nextRow = some r → r ≤ 50

/-- A panel's rectangle lies inside its page (R111). -/
structure Panel.Inside (e : Panel) : Prop where
  page : e.page ≤ 3
  height : 1 ≤ e.height ∧ e.row + e.height ≤ 50
  width : 1 ≤ e.width ∧ e.col + e.width ≤ 132

/-- The writes not yet granted of the job in hand and of the message in execution. -/
def State.ungranted (s : State) : List CellWrite :=
  (match s.ptr.painter with
    | .idle => []
    | .painting _ _ _ _ ws => ws
    | .clearing _ ws => ws) ++
  (match s.mdc with
    | .idle => []
    | .writing _ ws => ws
    | .moving _ _ _ _ ws _ => ws
    | .syncing _ _ _ => [])

/-- Every table stays within the number of its entries, and every entry within its range. -/
structure State.InRange (s : State) : Prop where
  /-- 1024 slots (R22) -/
  slots : ∀ k, 1024 ≤ k → s.slot k = Record.empty
  /-- 256 buckets (R34) -/
  chains : ∀ b, 256 ≤ b → s.chain b = []
  /-- 26,400 claims and cells (R47, R172) -/
  claims : ∀ c, 26400 ≤ c → s.claim c = none
  cells : ∀ c, 26400 ≤ c → s.cell c = Cell.blank
  cellAttrs : ∀ c, (s.cell c).attr ≤ 63
  /-- 32 panels (R111) -/
  panels : ∀ p, 32 ≤ p → s.panel p = none
  rectangles : ∀ p e, s.panel p = some e → e.Inside
  /-- 64 attribute entries (R124) -/
  attrs : ∀ i, 64 ≤ i → s.attr i = Attr.initial
  /-- 16 conditions, each mapped to 0..63 (R127) -/
  banks : ∀ bank c, s.scheme bank c ≤ 63 ∧ (16 ≤ c → s.scheme bank c = 0)
  /-- 64 user glyphs of 14 rows (R181) -/
  glyphs : ∀ c, (s.glyph c).length = 14 ∧ (c < 128 ∨ 191 < c → s.glyph c = blankGlyph)
  /-- A write asked for is into a cell of the store, with an index of the attribute table. -/
  ungranted : ∀ w ∈ s.ungranted, w.cell < 26400 ∧ w.attr ≤ 63
  /-- The CLEARED index a PANEL_MOVE read at its take (R128). -/
  clearedIndex : ∀ m p a k ws rest, s.mdc = .moving m p a k ws rest → a ≤ 63

/-- The field queue, the queued and due flags, and the jobs (R139, R142, R117). -/
structure State.QueueSound (s : State) : Prop where
  /-- A slot is queued at most once (R139). -/
  nodup : s.ptr.queue.Nodup
  /-- The queued flag is set exactly while the slot is in the queue (R139). -/
  flag : ∀ k, (s.slot k).queued = true ↔ k ∈ s.ptr.queue
  /-- Only RETIRING slots and LIVE ones of an OPEN panel are queued (R139). -/
  members : ∀ k ∈ s.ptr.queue, (s.slot k).state = .retiring
    ∨ (s.slot k).state = .live ∧ ∃ e, s.panel (s.slot k).panel = some e ∧ e.frozen = false
  /-- The due flag stands only on a LIVE record of a FROZEN panel (R33, R118). -/
  due : ∀ k, (s.slot k).due = true → s.isLive k = true ∧ s.isFrozen (s.slot k).panel = true
  /-- Every RETIRING slot is queued or is the slot of the clear job in hand (R142). -/
  retiring : ∀ k, (s.slot k).state = .retiring → (s.slot k).queued = true ∨ ∃ ws, s.ptr.painter = .clearing k ws
  /-- A LIVE job's slot is not FREE and has writes left (R148). -/
  painting : ∀ k sn bank str ws, s.ptr.painter = .painting k sn bank str ws →
    (s.slot k).state ≠ .free ∧ ws ≠ [] ∧ str.length = (s.slot k).width
  /-- A clear job's slot is RETIRING and no longer queued, and has writes left (R151). -/
  clearing : ∀ k ws, s.ptr.painter = .clearing k ws →
    (s.slot k).state = .retiring ∧ (s.slot k).queued = false ∧ ws ≠ []
  /-- A LIVE record's panel is not CLOSED (R112). -/
  housed : ∀ k, s.isLive k = true → (s.panel (s.slot k).panel).isSome = true

/-- The Key Index (R35, R37). -/
structure State.ChainsSound (s : State) : Prop where
  nodup : ∀ b, (s.chain b).Nodup
  /-- Each LIVE slot is in the chain its key hashes to and in no other; no other slot is in any. -/
  members : ∀ b k, k ∈ s.chain b ↔ s.isLive k = true ∧ bucketOf (s.slot k).instrument (s.slot k).kind = b
  /-- At most 4 LIVE records share a key. -/
  four : ∀ instrument kind, (s.mirrors instrument kind).length ≤ 4

/-- R39: the LIVE records of one key hold equal shared fields. -/
def State.MirrorsAgree (s : State) : Prop :=
  ∀ j k, s.isLive j = true → s.isLive k = true → (s.slot j).instrument = (s.slot k).instrument →
    (s.slot j).kind = (s.slot k).kind →
    (s.slot j).current = (s.slot k).current ∧ (s.slot j).previous = (s.slot k).previous
      ∧ (s.slot j).direction = (s.slot k).direction ∧ (s.slot j).stale = (s.slot k).stale
      ∧ (s.slot j).suspect = (s.slot k).suspect ∧ (s.slot j).reference = (s.slot k).reference
      ∧ (s.slot j).lastOperand = (s.slot k).lastOperand

/-- R40, R41: the guard state is the lead's. -/
structure State.GuardSound (s : State) : Prop where
  lead : ∀ instrument kind k, s.lead instrument kind = some k →
    (s.slot k).holdCount ≤ 3 ∧ ((s.slot k).suspectValue = none → (s.slot k).holdCount = 0)
  /-- Every mirror of a key that holds a print is marked suspect, and no other record is. -/
  suspects : ∀ instrument kind l k, s.lead instrument kind = some l → k ∈ s.mirrors instrument kind →
    (s.slot k).suspect = (s.slot l).suspectValue.isSome
  /-- A record that is not the lead of its key, whatever its state, holds no guard state. -/
  others : ∀ k, s.lead (s.slot k).instrument (s.slot k).kind ≠ some k →
    (s.slot k).suspectValue = none ∧ (s.slot k).holdCount = 0
  /-- A derived key takes no ticks. -/
  derived : ∀ k, (s.slot k).kind.tickable = false → (s.slot k).suspectValue = none ∧ (s.slot k).suspect = false

/-- The records a PANEL_MOVE in execution has still to re-anchor. -/
def State.unmoved (s : State) : List Nat :=
  match s.mdc with
  | .moving _ _ _ k _ rest => k :: rest
  | _ => []

/-- The Claim Map against the records and their panels (R47, R112, R119 to R122). -/
structure State.ClaimsSound (s : State) : Prop where
  /-- A claiming slot is LIVE or RETIRING, and the cell lies within its span. -/
  owner : ∀ c k, s.claim c = some k → (s.slot k).state ≠ .free ∧ c ∈ (s.slot k).span
  /-- A LIVE record not still to be moved claims every cell of its span. -/
  full : ∀ k, s.isLive k = true → k ∉ s.unmoved → ∀ c ∈ (s.slot k).span, s.claim c = some k
  /-- Its anchor is its panel's origin plus its offsets, on its panel's page (R25). -/
  anchored : ∀ k e, s.isLive k = true → k ∉ s.unmoved → s.panel (s.slot k).panel = some e →
    (s.slot k).page = e.page ∧ (s.slot k).row = e.row + (s.slot k).rowOffset
      ∧ (s.slot k).col = e.col + (s.slot k).colOffset
  /-- It lies inside its panel's rectangle (R112). -/
  inPanel : ∀ k e, s.isLive k = true → s.panel (s.slot k).panel = some e →
    (s.slot k).rowOffset < e.height ∧ (s.slot k).colOffset + (s.slot k).width ≤ e.width
  /-- Every record's span lies inside its page. -/
  inPage : ∀ k, (s.slot k).state ≠ .free →
    (s.slot k).page ≤ 3 ∧ (s.slot k).row < 50 ∧ (s.slot k).col + (s.slot k).width ≤ 132
  /-- Two LIVE records of one panel have no place in common (R122). -/
  apart : ∀ j k, s.isLive j = true → s.isLive k = true → j ≠ k → (s.slot j).panel = (s.slot k).panel →
    (s.slot j).rowOffset = (s.slot k).rowOffset →
    (s.slot j).colOffset + (s.slot j).width ≤ (s.slot k).colOffset
      ∨ (s.slot k).colOffset + (s.slot k).width ≤ (s.slot j).colOffset
  /-- A cell the clearing slot still claims is still to be blanked (R151). -/
  clearing : ∀ k ws c, s.ptr.painter = .clearing k ws → s.claim c = some k → c ∈ ws.map CellWrite.cell
  /-- A cell the record being vacated still claims is still to be blanked (R121). -/
  vacating : ∀ m p a k ws rest c, s.mdc = .moving m p a k ws rest → s.claim c = some k → c ∈ ws.map CellWrite.cell
  /-- The records still to be moved are LIVE records of the moved panel, which is FROZEN, and their new cells are claimed by no
  LIVE record of another panel (R119). -/
  moving : ∀ m p a k ws rest, s.mdc = .moving m p a k ws rest →
    ws ≠ [] ∧ (k :: rest).Nodup ∧ ∃ e, s.panel p = some e ∧ e.frozen = true
      ∧ ∀ j ∈ k :: rest, s.isLive j = true ∧ (s.slot j).panel = p
        ∧ ∀ c ∈ (s.slot j).spanAt e.page e.row e.col, s.claimedElsewhere p c = false

/-- An optional field value lies in −2,147,483,647..+2,147,483,647 (R27). -/
def inValueRange (v : Option Int) : Prop := ∀ x, v = some x → -2147483647 ≤ x ∧ x ≤ 2147483647

/-- One record's fields against each other and their ranges. -/
structure Record.Sound (r : Record) : Prop where
  /-- A FREE slot holds the empty record (R23). -/
  free : r.state = .free → r = Record.empty
  /-- R24, R25 -/
  placed : r.state ≠ .free → instrumentOk r.instrument = true ∧ r.panel ≤ 31 ∧ 1 ≤ r.width ∧ r.width ≤ 16
  /-- R27 -/
  values : inValueRange r.current ∧ inValueRange r.previous ∧ inValueRange r.reference ∧ inValueRange r.lastOperand
    ∧ inValueRange r.suspectValue
  size : r.kind = .size → (∀ v, r.current = some v → 0 ≤ v) ∧ (∀ v, r.previous = some v → 0 ≤ v)
  /-- R29 -/
  operands : r.kind ≠ .net → r.reference = none ∧ r.lastOperand = none
  net : r.kind = .net → r.current = netValue r.reference r.lastOperand
  /-- R31, R86 -/
  band : r.band = bandStateOf r.settings.bandMode r.settings.lo r.settings.hi r.current
  alert : r.alert = alertCondition r.settings.bandMode r.band
  /-- R26 -/
  format : sourceOk r.settings.format.mode r.settings.format.source = true
  display : r.settings.format.display ≤ r.settings.format.source
  limits : -2147483648 ≤ r.settings.lo ∧ r.settings.lo ≤ r.settings.hi ∧ r.settings.hi ≤ 2147483647
  filter : r.settings.filter ≤ 2147483647
  /-- R32 -/
  age : r.age ≤ 255 ∧ (r.highlight = .off ↔ r.age = 0)
  mask : (∀ i ∈ r.mask, i < r.width) ∧ (r.highlight = .off → r.mask = [])
  /-- A record that is not LIVE has no highlight (R63). -/
  aged : r.state ≠ .live → r.age = 0
  /-- R33 -/
  image : ∀ i, r.image = some i → i.length = r.width

/-- The alert list: at most one entry for a slot, and every listed slot LIVE (R89). -/
structure State.AlertsSound (s : State) : Prop where
  nodup : (s.alerts.map AlertEntry.slot).Nodup
  live : ∀ e ∈ s.alerts, s.isLive e.slot = true

/-- The number of slots in a state. -/
def State.countOf (s : State) (st : SlotState) : Nat := (allSlots.filter (fun k => (s.slot k).state == st)).length

/-- FTB's counts are those of its slots (R22). -/
structure State.Counted (s : State) : Prop where
  live : s.ftb.liveCount = s.countOf .live
  retiring : s.ftb.retiringCount = s.countOf .retiring
  free : s.ftb.freeCount = s.countOf .free

/-- Every promise at once. -/
structure State.Sound (s : State) : Prop where
  tables : s.TablesCanonical
  link : s.LinkSound
  bounded : s.Bounded
  inRange : s.InRange
  queue : s.QueueSound
  chains : s.ChainsSound
  mirrors : s.MirrorsAgree
  guarded : s.GuardSound
  claims : s.ClaimsSound
  records : ∀ k, (s.slot k).Sound
  alerts : s.AlertsSound
  counted : s.Counted

end Sys2Proof.Machine
end

