-- ==== Sys2Proof/Certificates/Slice0/Obligations.lean ====
section
/-!
DEFINITION. The statements about the JV416, for the provers.  A statement of a command's effect gives the whole next state: what it
does not name stays as it was.
-/

open Sys2Proof Sys2Proof.Machine

/-! ## Steps, reset and the receiver -/

/-- A step runs the command at the front of the queue on the state with the queue's rest; that the block idles on an empty queue is
the model's choice (log entry 3). -/
def Obligations.StepRunsFrontCommand : Prop :=
  (∀ (c : Instr) (rest : List Instr) (s : State), s.pending = c :: rest → step s = exec c { s with pending := rest })
  ∧ ∀ s : State, s.pending = [] → step s = .next s

/-- POWER_ON_RESET puts every block at the values of Table 11-4, whatever was in progress, with no reply, NOTICE released and
the video outputs at level 0 with no pulse (R184, R192).  The rest of the state is the model's choice: the unit address and the unreported
fields of a FREE slot stand at 0 or their first code (log entry 4), the count of high line time at 0 (log entry 5), what DOU is drawing
is empty (log entry 20), and the commands that wait stay (log entry 21). -/
def Obligations.PowerOnResetTakesTableValues : Prop :=
  ∀ s : State, ∃ t, exec .powerOnReset s = .next t
    ∧ t = { State.reset with pending := s.pending } ∧ t.resetLow = true
    ∧ t.lki.rx = .settle ∧ t.lki.selection = .deaf ∧ t.lki.inbound = [] ∧ t.lki.gapPending = false
    ∧ t.lki.assembler = .waitCode ∧ t.lki.held = none ∧ t.lki.replyOwed = false ∧ t.lki.replies = []
    ∧ t.lki.transmitter = .idle ∧ t.lki.tx = .released ∧ t.lki.replyGap = 4
    ∧ t.mdc = .idle
    ∧ (∀ k, t.slot k = Record.empty) ∧ t.ftb.liveCount = 0 ∧ t.ftb.retiringCount = 0 ∧ t.ftb.freeCount = 1024
    ∧ (∀ bucket, t.chain bucket = []) ∧ (∀ c, t.claim c = none)
    ∧ t.alerts = [] ∧ (∀ p, t.panel p = none)
    ∧ (∀ i, t.attr i = { foreground := 7, background := 0, bold := false, underline := false, reverse := false, blink := false })
    ∧ (∀ bank c, t.scheme bank c = 0)
    ∧ t.ptr.queue = [] ∧ t.ptr.painter = .idle
    ∧ t.agu.owed = 0 ∧ t.agu.flashFrames = 30 ∧ t.agu.alertFrames = 90 ∧ t.agu.threshold = 64
    ∧ (∀ c, t.cell c = { char := 0x20, attr := 0 }) ∧ t.cst.mark = .mdc
    ∧ t.dou.shown = 0 ∧ t.dou.pendingPage = none ∧ t.dou.pattern = false ∧ t.dou.pendingPattern = none
    ∧ t.dou.blink = 0 ∧ t.dou.phaseOn = true ∧ (∀ code, t.glyph code = List.replicate 14 0)
    ∧ t.dou.video = .steady { levels := { red := 0, green := 0, blue := 0 }, hsync := false, vsync := false }
    ∧ t.stu.sticky = 0 ∧ t.stu.flagEnables = 0 ∧ t.stu.alertEnable = false ∧ t.noticeAsserted = false

/-- RESET_RELEASE samples the strap, leaves the receiver in SETTLE and starts the count of high line time at 0 (R191, Table 1-6).
Until then no other step changes anything (R192; that such a step answers the state unchanged is the model's choice, log entry 1). -/
def Obligations.ResetHoldsUntilRelease : Prop :=
  (∀ (s : State) (strap : BitVec 4), s.resetLow = true →
    exec (.resetRelease strap) s =
      .next { s with resetLow := false, lki := { s.lki with rx := .settle, unitAddress := strap, replyHigh := 0 } })
  ∧ ∀ (s : State) (i : Instr), s.resetLow = true → i ≠ .powerOnReset → (∀ strap, i ≠ .resetRelease strap) →
    exec i s = .next s

/-- The receiver's moves that receive no character (R1, R2).  In SETTLE a fall restarts a count the model does not hold, so nothing
changes (log entry 6). -/
def Obligations.ReceiverMoves : Prop :=
  ∀ s : State, s.resetLow = false →
    (s.lki.rx = .hunt → exec .startBitFall s = .next { s with lki := { s.lki with rx := .receive } })
    ∧ (s.lki.rx = .settle → exec .startBitFall s = .next s)
    ∧ (s.lki.rx = .receive → exec .falseStart s = .next { s with lki := { s.lki with rx := .hunt } })
    ∧ (s.lki.rx = .awaitHigh → exec .awaitHighExit s = .next { s with lki := { s.lki with rx := .hunt } })
    ∧ (s.lki.rx = .settle → exec .settleEnd s = .next { s with lki := { s.lki with rx := .hunt } })

/-! ## Address and data characters, breaks -/

/-- An address character selects by Table 1-3, or makes the unit DEAF and sets LINE when it is damaged; it cancels a pending gap and
marks the boundary, on the newest entry or, with the queue empty, on the assembler at once (R1, R3, R4).  What it does to reply
flags is another statement's. -/
def Obligations.AddressCharacterSelects : Prop :=
  ∀ (s : State) (v : Byte) (parity stop : Bool), s.resetLow = false → s.lki.rx = .receive →
    ∃ t, exec (.addressCharacter v parity stop) s = .next t
      ∧ (let damaged : Bool := (onesOf v + 1 + parity.toNat) % 2 = 1 || !stop
         let u := s.lki.unitAddress.toNat
         let cut : Bool := s.lki.inbound.isEmpty && s.lki.assembler.truncates
         t.lki.rx = (if stop then .hunt else .awaitHigh)
         ∧ t.lki.selection =
             (if damaged then .deaf
              else if u ≤ 14 ∧ v.toNat = u then .loud
              else if u ≤ 14 ∧ v.toNat = 16 + u then .quiet
              else if v.toNat = 15 ∨ v.toNat = 31 then .quiet
              else .deaf)
         ∧ t.lki.gapPending = false
         ∧ (∀ front e, s.lki.inbound = front ++ [e] →
             t.lki.inbound.map (fun x => { x with reply := false })
               = (front ++ [{ e with boundary := true }]).map (fun x => { x with reply := false })
             ∧ t.lki.assembler.clearReply = s.lki.assembler.clearReply)
         ∧ (s.lki.inbound = [] → t.lki.inbound = [] ∧ t.lki.assembler = .waitCode)
         ∧ t.lki.held.map HeldItem.clearReply = s.lki.held.map HeldItem.clearReply
         ∧ t.lki.tx = s.lki.tx ∧ t.lki.replyHigh = s.lki.replyHigh ∧ t.lki.replyGap = s.lki.replyGap
         ∧ t.lki.unitAddress = s.lki.unitAddress
         ∧ t = { s with
             lki := t.lki
             stu := { s.stu with
               sticky := s.stu.sticky ||| (if damaged then 0x02 else 0) ||| (if cut then 0x10 else 0) } })

/-- R5: a change out of LOUD, by an address character or a break, cancels every reply owed and not yet begun and clears every reply
flag; a change that is not out of LOUD leaves them. -/
def Obligations.LeavingLoudCancelsReplies : Prop :=
  (∀ (s t : State) (v : Byte) (parity stop : Bool), s.resetLow = false → s.lki.rx = .receive →
    exec (.addressCharacter v parity stop) s = .next t →
    (s.lki.selection = .loud → t.lki.selection ≠ .loud →
      t.lki.replies = s.lki.begunReplies ∧ t.lki.tx = s.lki.tx ∧ (∀ e ∈ t.lki.inbound, e.reply = false)
      ∧ (∀ h, t.lki.held = some h → h.reply = false) ∧ t.lki.assembler.reply = false ∧ t.lki.replyOwed = false)
    ∧ ((s.lki.selection ≠ .loud ∨ t.lki.selection = .loud) →
      t.lki.replies = s.lki.replies ∧ t.lki.tx = s.lki.tx
      ∧ t.lki.inbound.map InEntry.reply = s.lki.inbound.map InEntry.reply
      ∧ t.lki.held = s.lki.held ∧ t.lki.replyOwed = s.lki.replyOwed
      ∧ (t.lki.assembler = s.lki.assembler ∨ t.lki.assembler = .waitCode)))
  ∧ ∀ s t : State, s.resetLow = false → (s.lki.rx = .awaitHigh ∨ s.lki.rx = .settle) → exec .breakEvent s = .next t →
    t.lki.replies = [] ∧ t.lki.inbound = [] ∧ t.lki.held = none ∧ t.lki.assembler = .waitCode
    ∧ t.lki.replyOwed = false ∧ ∀ bits, s.lki.tx = .sending bits → t.lki.tx = .cutShort

/-- R6: a data character is ignored when DEAF, and otherwise joins the tail of a queue with room, with its error flags, the gap flag
of a pending gap and a reply flag that says whether the unit is LOUD.  At a full queue it is lost (R7). -/
def Obligations.DataCharacterQueued : Prop :=
  ∀ (s : State) (v : Byte) (parity stop : Bool), s.resetLow = false → s.lki.rx = .receive →
    (let rx : RxState := if stop then .hunt else .awaitHigh
     let e : InEntry :=
       { value := v, parityError := (onesOf v + parity.toNat) % 2 = 1, framingError := !stop, gap := s.lki.gapPending
         boundary := false, reply := s.lki.selection == .loud }
     (s.lki.selection = .deaf →
       exec (.dataCharacter v parity stop) s = .next { s with lki := { s.lki with rx := rx } })
     ∧ (s.lki.selection ≠ .deaf → s.lki.inbound.length < 64 →
       exec (.dataCharacter v parity stop) s =
         .next { s with lki := { s.lki with rx := rx, inbound := s.lki.inbound ++ [e], gapPending := false } }
       ∧ (s.lki.inbound ++ [e]).length ≤ 64)
     ∧ (s.lki.selection ≠ .deaf → 64 ≤ s.lki.inbound.length →
       exec (.dataCharacter v parity stop) s =
         .next { s with
           lki := { s.lki with rx := rx, gapPending := true }
           stu := { s.stu with sticky := s.stu.sticky ||| 0x01 } }))

/-- A break, raised in AWAIT_HIGH or SETTLE, acts on LKI alone: it leaves the receiver in SETTLE, the unit DEAF, nothing queued,
assembled, held, owed or to be sent, and a reply being sent cut short (R2, R18). -/
def Obligations.BreakActsOnLinkAlone : Prop :=
  ∀ s : State, s.resetLow = false → (s.lki.rx = .awaitHigh ∨ s.lki.rx = .settle) →
    exec .breakEvent s = .next { s with lki := { s.lki with
      rx := .settle, selection := .deaf, inbound := [], gapPending := false, assembler := .waitCode, held := none
      replyOwed := false, replies := []
      tx := match s.lki.tx with
        | .sending _ => .cutShort
        | .released => .released
        | .cutShort => .cutShort } }

/-! ## Assembly -/

/-- The assembler takes the head entry when nothing is held, and does with it what R8, R9 and R10 give; after an entry with the
boundary flag the boundary test of R4 follows.  That the length stands at 0 until its byte is taken is the model's choice (log entry 4). -/
def Obligations.AssemblerTakesHeadEntry : Prop :=
  ∀ (s : State) (e : InEntry) (rest : List InEntry), s.resetLow = false → s.lki.held = none → s.lki.inbound = e :: rest →
    (let (a, held, flag) := assembled s.lki.assembler e
     exec .assemblerTake s = .next { s with
       lki := { s.lki with inbound := rest, held := held, assembler := if e.boundary then .waitCode else a }
       stu := { s.stu with
         sticky := s.stu.sticky ||| flag ||| (if e.boundary ∧ a.truncates then 0x10 else 0) } })

/-- A whole message, taken entry by entry from WAIT_CODE, is held for MDC with the reply flag of its code entry when no entry was
damaged, none carried the gap flag and its bytes sum to 0; otherwise a discard notice with its code is held, for OVERRUN, LINE or
CHECK in that order (R8, R10).  L + 3 steps take it. -/
def Obligations.MessageAssembledOrDiscarded : Prop :=
  ∀ (s : State) (code len check : InEntry) (params rest : List InEntry) (cmds : List Instr),
    s.resetLow = false → s.lki.held = none → s.lki.assembler = .waitCode →
    s.lki.inbound = code :: len :: params ++ check :: rest →
    params.length = len.value.toNat → params.length ≤ 60 →
    len.parityError = false → len.framingError = false → len.gap = false →
    (∀ e ∈ code :: len :: params, e.boundary = false) →
    s.pending = List.replicate (params.length + 3) Instr.assemblerTake ++ cmds →
    (let all := code :: len :: params ++ [check]
     let gap := all.any InEntry.gap
     let line := all.any (fun e => e.parityError || e.framingError)
     let sum := (all.map InEntry.value).sum
     let held : HeldItem :=
       if gap then .notice code.value .overrun code.reply
       else if line then .notice code.value .line code.reply
       else if sum ≠ 0 then .notice code.value .check code.reply
       else .message { code := code.value, params := params.map InEntry.value } code.reply
     let flag : Byte := if gap then 0x01 else if line then 0x02 else if sum ≠ 0 then 0x04 else 0
     Host.Core.run Sys2Proof.core (params.length + 3) s = .next { s with
       pending := cmds
       lki := { s.lki with inbound := rest, assembler := .waitCode, held := some held }
       stu := { s.stu with sticky := s.stu.sticky ||| flag } })

/-! ## MDC's takes -/

/-- MDC answers without decoding parameters: a discard notice with DISCARDED and its reason byte, a code that names no command with
UNKNOWN, a length that Table 1-9 does not allow with BADLEN (R13). -/
def Obligations.NoticeUnknownAndLengthAnswered : Prop :=
  (∀ (s : State) (code : Byte) (reason : DiscardReason) (reply : Bool), s.resetLow = false → s.mdc = .idle →
    s.lki.held = some (.notice code reason reply) → (reply = true → s.lki.replies.length < 4) →
    exec .discardNoticeTake s = .next (s.answered ⟨code, []⟩ reply .discarded
      [match reason with | .line => 0x01 | .overrun => 0x02 | .check => 0x03]))
  ∧ (∀ (s : State) (m : Message) (reply : Bool), s.resetLow = false → s.mdc = .idle →
    s.lki.held = some (.message m reply) → (reply = true → s.lki.replies.length < 4) →
    m.code ∉ ([0x10, 0x11, 0x12, 0x13, 0x14, 0x20, 0x21, 0x22, 0x23, 0x24, 0x25, 0x30, 0x31, 0x32, 0x33, 0x34, 0x40, 0x41, 0x42,
      0x50, 0x51, 0x60, 0x61, 0x62, 0x70, 0x71, 0x72] : List Byte) →
    exec .unknownCommand s = .next (s.answered m reply .unknown []))
  ∧ ∀ (c : Command) (s : State) (m : Message) (reply : Bool), s.Ready c m reply →
    (m.params.length ∉ tableLengths c ∨ c = .qtick ∧ (m.params.getD 4 0).toNat ≠ (m.params.length - 5) / 4) →
    exec c.instr s = .next (s.answered m reply .badLen [])

/-- MDC takes nothing while it is BUSY, and nothing with the reply flag set while the reply queue holds 4 replies (R12): every take
then changes nothing (log entry 1). -/
def Obligations.MdcWaitsForItsTurn : Prop :=
  ∀ (s : State) (i : Instr), ((∃ c : Command, i = c.instr) ∨ i = .discardNoticeTake ∨ i = .unknownCommand) →
    (s.mdc ≠ .idle ∨ s.lki.held = none ∨ (∃ h, s.lki.held = some h ∧ h.reply = true) ∧ 4 ≤ s.lki.replies.length) →
    exec i s = .next s

/-- A command that answers any result but OK has changed nothing but LKI's hold and the reply it makes (R13, R21). -/
def Obligations.RefusedCommandChangesNothing : Prop :=
  ∀ (c : Command) (s t : State) (m : Message) (code result : Byte) (more : List Byte), s.Ready c m true →
    exec c.instr s = .next t → t.lki.replies = s.lki.replies ++ [code :: result :: more] → result ≠ 0 →
    t = { s with lki := { s.lki with held := none, replyOwed := false, replies := t.lki.replies } }

/-! ## Replies and the transmitter -/

/-- A reply is the echoed code, the result code, the length, the data and a check byte that makes all its bytes sum to 0; on the line its
characters follow one another in their order, each a low start bit, 8 data bits from the least significant, mark 0, even parity and a
high stop bit, and a reply of n data bytes lasts (n + 4) × 12 bit times (R15, R16, Table 1-1, Table 1-10). -/
def Obligations.ReplyCharactersOnTheLine : Prop :=
  (∀ (code : Byte) (r : Result) (data : List Byte), ∃ check,
    replyOf code r data = [code, r.code, BitVec.ofNat 8 data.length] ++ data ++ [check]
    ∧ (replyOf code r data).sum = 0
    ∧ (replyLevels (replyOf code r data)).length = (data.length + 4) * 12)
  ∧ (∀ (chars : List Byte) (c : Byte) (i j : Nat), chars[i]? = some c → j < 12 →
    (replyLevels chars)[12 * i + j]? = (replyCharacter c)[j]?)
  ∧ (∀ v : Byte, ∃ parity : Bool,
    replyCharacter v = [false, v.getLsbD 0, v.getLsbD 1, v.getLsbD 2, v.getLsbD 3, v.getLsbD 4, v.getLsbD 5, v.getLsbD 6,
      v.getLsbD 7, false, parity, true]
    ∧ ((replyCharacter v).drop 1 |>.take 10 |>.count true) % 2 = 0)
  ∧ [Result.ok, .unknown, .badLen, .badArg, .badBand, .noSlot, .mirrors, .outside, .collide, .noPanel, .inUse, .notFrozen,
      .notLive, .notFound, .derived, .discarded].map Result.code = (List.range 16).map (BitVec.ofNat 8)

/-- The transmitter begins the reply at the head of the queue once the line has been high for the reply gap while the unit is LOUD,
takes it out of the queue at its last stop bit, and after a break stops at the end of the character in progress; both ends start the
count of high line time anew (R16, R17, R18).  The count as State holds it is the model's (log entry 5), and that a REPLY_START changes
nothing out of LOUD, with no reply or while the transmitter drives the line is the model's choice (log entry 1). -/
def Obligations.TransmitterSendsHeadReply : Prop :=
  ∀ s : State, s.resetLow = false →
    (∀ chars rest (high : Nat), s.lki.replies = chars :: rest → s.lki.selection = .loud → s.lki.tx = .released →
      exec (.replyStart high) s = .next { s with lki :=
        if s.lki.replyGap ≤ high then { s.lki with tx := .sending (replyLevels chars), replyHigh := 0 }
        else { s.lki with replyHigh := high } })
    ∧ (∀ bits, s.lki.tx = .sending bits →
      exec .replyEnd s =
        .next { s with lki := { s.lki with replies := s.lki.replies.tail, tx := .released, replyHigh := 0 } })
    ∧ (s.lki.tx = .cutShort →
      exec .replyCutShort s = .next { s with lki := { s.lki with tx := .released, replyHigh := 0 } })
    ∧ ((s.lki.selection ≠ .loud ∨ s.lki.replies = [] ∨ s.lki.tx ≠ .released) →
      ∀ high : Nat, exec (.replyStart high) s = .next s)

/-- Quantities travel most significant byte first and signed values in two's complement: what the part reads at an offset is what the
bytes there spell, and what it writes reads back (R20). -/
def Obligations.QuantitiesReadAsSent : Prop :=
  (∀ (front rest : List Byte) (a b c d : Byte),
    u8 (front ++ a :: rest) front.length = a.toNat
    ∧ u16 (front ++ a :: b :: rest) front.length = a.toNat * 256 + b.toNat
    ∧ u24 (front ++ a :: b :: c :: rest) front.length = number24 a b c
    ∧ s32 (front ++ a :: b :: c :: d :: rest) front.length = signed32 a b c d)
  ∧ (∀ n : Nat, n < 65536 → u16 (bytes16 n) 0 = n ∧ (bytes16 n).length = 2)
  ∧ (∀ n : Nat, n < 16777216 → u24 (bytes24 n) 0 = n ∧ (bytes24 n).length = 3)
  ∧ ∀ v : Int, -2147483648 ≤ v → v ≤ 2147483647 → s32 (bytesS32 v) 0 = v ∧ (bytesS32 v).length = 4

/-! ## Reading records back -/

/-- The bucket of a key is the sum of the three bytes of the instrument code and the kind, modulo 256 (R34).  LOOKUP refuses a bad
instrument code or kind with BADARG and a key with no LIVE record with NOTFOUND; else it answers OK with the lead's slot, the mirror
count and the lead's fields, 21 bytes; it changes no state (R42, R43). -/
def Obligations.LookupReportsLead : Prop :=
  (∀ (a b c : Byte) (kind : Kind),
    bucketOf (number24 a b c) kind = (a.toNat + b.toNat + c.toNat + kind.number) % 256)
  ∧ ∀ (s : State) (a b c kindByte : Byte) (reply : Bool), s.Ready .lookup ⟨0x13, [a, b, c, kindByte]⟩ reply →
    (let m : Message := ⟨0x13, [a, b, c, kindByte]⟩
     ((number24 a b c = 0 ∨ 1048575 < number24 a b c ∨ 6 < kindByte.toNat) →
       exec .lookup s = .next (s.answered m reply .badArg []))
     ∧ ∀ kind : Kind, 1 ≤ number24 a b c → number24 a b c ≤ 1048575 → kindByte.toNat = kind.number →
       (s.lead (number24 a b c) kind = none → exec .lookup s = .next (s.answered m reply .notFound []))
       ∧ ∀ lead, s.lead (number24 a b c) kind = some lead →
         ∃ flags : Byte,
           (let r := s.slot lead
            let data := bytes16 lead ++ [BitVec.ofNat 8 (s.mirrors (number24 a b c) kind).length, flags]
              ++ bytesS32 (r.current.getD 0) ++ bytesS32 (r.previous.getD 0) ++ [BitVec.ofNat 8 r.direction.number]
              ++ bytesS32 (r.suspectValue.getD 0)
              ++ [BitVec.ofNat 8 r.holdCount, BitVec.ofNat 8 r.band.number, BitVec.ofNat 8 r.highlight.number,
                  BitVec.ofNat 8 r.age]
            exec .lookup s = .next (s.answered m reply .ok data) ∧ data.length = 21
            ∧ flags.getLsbD 0 = r.current.isSome ∧ flags.getLsbD 1 = r.previous.isSome
            ∧ flags.getLsbD 2 = r.suspectValue.isSome ∧ flags.getLsbD 3 = r.stale ∧ flags.getLsbD 4 = r.suspect
            ∧ flags.getLsbD 5 = r.alert ∧ flags.getLsbD 6 = false ∧ flags.getLsbD 7 = false))

/-- PROBE refuses a slot above 1023 with BADARG, answers a FREE slot with its state alone, and a LIVE or RETIRING one with its 58 bytes
and the painted image; it changes no state (R44, R45).  Kinds, modes, band states, directions and highlight kinds are numbered as
Table 1-8 gives. -/
def Obligations.ProbeReportsSlot : Prop :=
  (∀ (s : State) (a b : Byte) (reply : Bool), s.Ready .probe ⟨0x14, [a, b]⟩ reply →
    (let m : Message := ⟨0x14, [a, b]⟩
     let r := s.slot (a.toNat * 256 + b.toNat)
     (1023 < a.toNat * 256 + b.toNat → exec .probe s = .next (s.answered m reply .badArg []))
     ∧ (a.toNat * 256 + b.toNat ≤ 1023 → r.state = .free → exec .probe s = .next (s.answered m reply .ok [0]))
     ∧ (a.toNat * 256 + b.toNat ≤ 1023 → r.state ≠ .free → ∃ flagsA flagsB options mask1 mask0 : Byte,
         (let data : List Byte := [if r.state = .live then 1 else 2] ++ bytes24 r.instrument
            ++ [BitVec.ofNat 8 r.kind.number, BitVec.ofNat 8 r.panel, BitVec.ofNat 8 r.rowOffset, BitVec.ofNat 8 r.colOffset,
                BitVec.ofNat 8 r.page, BitVec.ofNat 8 r.row, BitVec.ofNat 8 r.col, BitVec.ofNat 8 r.width,
                BitVec.ofNat 8 r.settings.format.mode.number, BitVec.ofNat 8 r.settings.format.source,
                BitVec.ofNat 8 r.settings.format.display, options, BitVec.ofNat 8 r.settings.bandMode.number]
            ++ bytesS32 r.settings.lo ++ bytesS32 r.settings.hi ++ bytesS32 r.settings.filter ++ [flagsA, flagsB]
            ++ bytesS32 (r.current.getD 0) ++ bytesS32 (r.previous.getD 0) ++ [BitVec.ofNat 8 r.direction.number]
            ++ bytesS32 (r.reference.getD 0) ++ bytesS32 (r.lastOperand.getD 0) ++ bytesS32 (r.suspectValue.getD 0)
            ++ [BitVec.ofNat 8 r.holdCount, BitVec.ofNat 8 r.band.number, BitVec.ofNat 8 r.highlight.number,
                BitVec.ofNat 8 r.age, mask1, mask0] ++ r.image.getD []
          exec .probe s = .next (s.answered m reply .ok data)
          ∧ data.length = 58 + (r.image.getD []).length
          ∧ options.getLsbD 0 = r.settings.format.signAlways ∧ options.getLsbD 1 = r.settings.format.fillZero
          ∧ options.getLsbD 2 = r.settings.format.degrade ∧ options.getLsbD 3 = r.settings.format.digits
          ∧ options.toNat < 16
          ∧ flagsA.getLsbD 0 = r.current.isSome ∧ flagsA.getLsbD 1 = r.previous.isSome
          ∧ flagsA.getLsbD 2 = r.suspectValue.isSome ∧ flagsA.getLsbD 3 = r.stale ∧ flagsA.getLsbD 4 = r.suspect
          ∧ flagsA.getLsbD 5 = r.alert ∧ flagsA.toNat < 64
          ∧ flagsB.getLsbD 0 = r.reference.isSome ∧ flagsB.getLsbD 1 = r.lastOperand.isSome
          ∧ flagsB.getLsbD 2 = r.newValue ∧ flagsB.getLsbD 3 = r.queued ∧ flagsB.getLsbD 4 = r.due
          ∧ flagsB.getLsbD 5 = r.image.isSome ∧ flagsB.toNat < 64
          ∧ ∀ i, i < 16 → ((mask1 ++ mask0 : BitVec 16).getLsbD i = true ↔ i ∈ r.mask)))))
  ∧ [Kind.bid, .ask, .last, .size, .net, .high, .low].map Kind.number = [0, 1, 2, 3, 4, 5, 6]
  ∧ [FormatMode.dec, .frac, .count].map FormatMode.number = [0, 1, 2]
  ∧ [BandMode.off, .inside, .outside].map BandMode.number = [0, 1, 2]
  ∧ [BandState.unset, .below, .within, .above].map BandState.number = [0, 1, 2, 3]
  ∧ [Direction.unset, .first, .up, .down, .same].map Direction.number = [0, 1, 2, 3, 4]
  ∧ [HighlightKind.off, .tick, .alert].map HighlightKind.number = [0, 1, 2]

/-! ## BIND, AMEND and RETIRE -/

/-- BIND makes the checks of Table 3-3 in their order and answers the first that fails; when all pass it takes the lowest FREE slot,
writes the record with its key, placement, settings and first values, links it at the tail of its chain, claims its span, moves the
counts, makes it due and answers with the slot (R50 to R59). -/
def Obligations.BindCreatesRecord : Prop :=
  ∀ (s : State) (m : Message) (reply : Bool), s.Ready .bind m reply → m.params.length = 25 →
    (∀ r, firstRefusal (bindChecks s m.params) = some r → exec .bind s = .next (s.answered m reply r []))
    ∧ (firstRefusal (bindChecks s m.params) = none → ∃ (k : Nat) (kind : Kind) (e : Panel) (t : State),
        (let p := m.params
         let instrument := u24 p 0
         let last := (s.lead instrument .last).bind (fun l => (s.slot l).current.map (fun v => (v, (s.slot l).stale)))
         let span := spanCells e.page (e.row + u8 p 5) (e.col + u8 p 6) (u8 p 7)
         let x := t.slot k
         k < 1024 ∧ (s.slot k).state = .free ∧ (∀ j, j < k → (s.slot j).state ≠ .free)
         ∧ kind.number = u8 p 3 ∧ s.panel (u8 p 4) = some e
         ∧ exec .bind s = .next (t.answered m reply .ok (bytes16 k))
         ∧ (x.state = .live ∧ x.instrument = instrument ∧ x.kind = kind ∧ x.panel = u8 p 4 ∧ x.rowOffset = u8 p 5
            ∧ x.colOffset = u8 p 6 ∧ x.page = e.page ∧ x.row = e.row + u8 p 5 ∧ x.col = e.col + u8 p 6 ∧ x.width = u8 p 7
            ∧ x.settings = storedSettings p 8)
         ∧ (∀ l, s.lead instrument kind = some l →
             x.current = (s.slot l).current ∧ x.previous = (s.slot l).previous ∧ x.direction = (s.slot l).direction
             ∧ x.stale = (s.slot l).stale ∧ x.suspect = (s.slot l).suspect
             ∧ x.reference = (if kind = .net then (s.slot l).reference else none)
             ∧ x.lastOperand = (if kind = .net then (s.slot l).lastOperand else none))
         ∧ (s.lead instrument kind = none →
             x.current = (if kind = .high ∨ kind = .low then last.map Prod.fst else none) ∧ x.previous = none
             ∧ x.direction = (if (kind = .high ∨ kind = .low) ∧ last.isSome then .first else .unset)
             ∧ x.stale = (if kind.tickable then false else (last.map Prod.snd).getD false) ∧ x.suspect = false
             ∧ x.reference = none ∧ x.lastOperand = (if kind = .net then last.map Prod.fst else none))
         ∧ (x.band = x.bandState ∧ x.alert = x.inAlert ∧ x.highlight = .off ∧ x.age = 0 ∧ x.mask = []
            ∧ x.newValue = false ∧ x.image = none ∧ x.suspectValue = none ∧ x.holdCount = 0
            ∧ x.queued = !e.frozen ∧ x.due = e.frozen)
         ∧ (∀ j, j ≠ k → t.slot j = s.slot j)
         ∧ (∀ bucket, t.chain bucket =
             if bucket = bucketOf instrument kind then s.chain bucket ++ [k] else s.chain bucket)
         ∧ (∀ c, t.claim c = if c ∈ span then some k else s.claim c)
         ∧ t = { s with
             ftb := { t.ftb with
               liveCount := s.ftb.liveCount + 1, freeCount := s.ftb.freeCount - 1, retiringCount := s.ftb.retiringCount }
             ptr := { s.ptr with queue := if e.frozen then s.ptr.queue else s.ptr.queue ++ [k] }
             lki := t.lki }
         ∧ t.lki = (s.taken reply).lki))

/-- AMEND refuses by the checks of R60 in their order; accepted, it replaces every setting of the named LIVE record at once, evaluates
its band, with the effects of a crossing where there is one, and makes the record due (R60, R61, R62). -/
def Obligations.AmendReplacesSettings : Prop :=
  ∀ (s : State) (m : Message) (reply : Bool), s.Ready .amend m reply → m.params.length = 19 →
    (let k := u16 m.params 0
     let checks : List (Bool × Result) := ([(1023 < k, .badArg)] : List (Bool × Result))
       ++ settingsChecks m.params 2 ++ ([((s.slot k).state != .live, .notLive)] : List (Bool × Result))
     (∀ r, firstRefusal checks = some r → exec .amend s = .next (s.answered m reply r []))
     ∧ (firstRefusal checks = none → ∃ t : State,
         (let r := { s.slot k with settings := storedSettings m.params 2 }
          let entry := crossingEntry k r
          exec .amend s = .next (t.answered m reply .ok [])
          ∧ t.slot k = s.madeDue k (r.evaluated s.agu.alertFrames)
          ∧ (∀ j, j ≠ k → t.slot j = s.slot j)
          ∧ t = { s.taken reply with
              ftb := { s.ftb with slots := t.ftb.slots }
              alerts := if r.crosses then entered s.alerts entry else s.alerts
              stu := { s.stu with
                sticky := s.stu.sticky ||| (if r.crosses ∧ lost s.alerts entry then 0x40 else 0) }
              ptr := { s.ptr with queue := s.queueWith [k] } })))

/-- RETIRE refuses a slot above 1023 with BADARG and one that is not LIVE with NOTLIVE.  Else the record leaves its chain and the alert
list, its highlight ends, it becomes RETIRING and is queued whatever its panel, and when it was the lead the next mirror takes over
the guard state (R63, R64, R41).  In a state where chains hold each LIVE slot once. -/
def Obligations.RetireWithdrawsRecord : Prop :=
  ∀ (s : State) (a b : Byte) (reply : Bool), s.ChainsSound → s.Ready .retire ⟨0x12, [a, b]⟩ reply →
    (let m : Message := ⟨0x12, [a, b]⟩
     let k := a.toNat * 256 + b.toNat
     let r := s.slot k
     let led : Bool := s.lead r.instrument r.kind == some k
     (1023 < k → exec .retire s = .next (s.answered m reply .badArg []))
     ∧ (k ≤ 1023 → r.state ≠ .live → exec .retire s = .next (s.answered m reply .notLive []))
     ∧ (k ≤ 1023 → r.state = .live → ∃ t : State,
         exec .retire s = .next (t.answered m reply .ok []) ∧ t = (s.taken reply).retire k
         ∧ t.slot k = { r with
             state := .retiring, highlight := .off, age := 0, mask := [], due := false, queued := true
             suspectValue := if led then none else r.suspectValue
             holdCount := if led then 0 else r.holdCount }
         ∧ (∀ j, j ≠ k → t.slot j =
             if led ∧ (s.mirrors r.instrument r.kind).tail.head? = some j
             then { s.slot j with suspectValue := r.suspectValue, holdCount := r.holdCount } else s.slot j)
         ∧ (∀ bucket, t.chain bucket = (s.chain bucket).filter (· != k))
         ∧ t = { s.taken reply with
             ftb := { s.ftb with
               slots := t.ftb.slots, chains := t.ftb.chains
               liveCount := s.ftb.liveCount - 1, retiringCount := s.ftb.retiringCount + 1 }
             alerts := s.alerts.filter (fun e => e.slot != k)
             ptr := { s.ptr with queue := if r.queued then s.ptr.queue else s.ptr.queue ++ [k] } }))

/-! ## Ticks -/

/-- TICK refuses a bad instrument code or kind with BADARG and a derived kind with DERIVED, and QTICK a bad instrument code, first kind
or count with BADARG.  Otherwise TICK evaluates one tick, QTICK its values as ticks of ascending kinds one after the other, each
whole; the records made due join as one group, and the reply gives outcome and records updated of each (R67, R68, R82).  A tick of
a key with no LIVE record, but for a LAST with derived records, has outcome NONE and no effect (R70).  A tick depends on the ticks
before it in its command only through the state they left, and the records it makes due come after theirs. -/
def Obligations.TickAndQtickEvaluate : Prop :=
  (∀ (s : State) (a b c kindByte v3 v2 v1 v0 : Byte) (reply : Bool),
    s.Ready .tick ⟨0x20, [a, b, c, kindByte, v3, v2, v1, v0]⟩ reply →
    (let m : Message := ⟨0x20, [a, b, c, kindByte, v3, v2, v1, v0]⟩
     let n := number24 a b c
     let checks : List (Bool × Result) :=
       [(n = 0 ∨ 1048575 < n, .badArg), (6 < kindByte.toNat, .badArg), (3 < kindByte.toNat, .derived)]
     (∀ r, firstRefusal checks = some r → exec .tick s = .next (s.answered m reply r []))
     ∧ (firstRefusal checks = none → ∀ kind : Kind, kindByte.toNat = kind.number →
         (let (o, acc) := evaluateTick { state := s.taken reply, due := [], updated := 0 } n kind (signed32 v3 v2 v1 v0)
          exec .tick s = .next ((acc.state.joinGroup acc.due).answered m reply .ok
            [BitVec.ofNat 8 o.number, BitVec.ofNat 8 acc.updated]))
         ∧ (s.mirrors n kind = [] →
             (kind ≠ .last ∨ s.mirrors n .net = [] ∧ s.mirrors n .high = [] ∧ s.mirrors n .low = []) →
             exec .tick s = .next (s.answered m reply .ok [0, 0])))))
  ∧ (∀ (s : State) (m : Message) (reply : Bool), s.Ready .qtick m reply → m.params.length ∈ [9, 13, 17, 21] →
    u8 m.params 4 = (m.params.length - 5) / 4 →
    (let p := m.params
     let n := u24 p 0
     let checks : List (Bool × Result) :=
       [(n = 0 ∨ 1048575 < n, .badArg), (6 < u8 p 3, .badArg), (4 < u8 p 3 + u8 p 4, .badArg)]
     (∀ r, firstRefusal checks = some r → exec .qtick s = .next (s.answered m reply r []))
     ∧ (firstRefusal checks = none → ∀ ticks : List (Kind × Int), ticks.length = u8 p 4 →
         (∀ i kind v, ticks[i]? = some (kind, v) → kind.number = u8 p 3 + i ∧ v = s32 p (5 + 4 * i)) →
         (let whole := ticks.foldl
            (fun (x : TickAcc × List Byte) tick =>
              let (o, acc) := evaluateTick x.1 n tick.1 tick.2
              (acc, x.2 ++ [BitVec.ofNat 8 o.number, BitVec.ofNat 8 acc.updated]))
            ({ state := s.taken reply, due := [], updated := 0 }, [])
          exec .qtick s = .next ((whole.1.state.joinGroup whole.1.due).answered m reply .ok whole.2)))))
  ∧ ∀ (x : TickAcc) (n : Nat) (kind : Kind) (v : Int),
    evaluateTick x n kind v =
      (let (o, acc) := evaluateTick { state := x.state, due := [], updated := 0 } n kind v
       (o, { acc with due := x.due ++ acc.due }))

/-- The guard's verdict is the first row of Table 4-2 whose test holds, with exact differences (R71); its outcomes are numbered as
Table 1-8 gives. -/
def Obligations.GuardFollowsTable : Prop :=
  (∀ (lead : Record) (v : Int), guardVerdict lead v =
    match lead.current with
    | none => .accepted
    | some c =>
      if lead.settings.filter = 0 ∨ |v - c| ≤ lead.settings.filter then .accepted
      else if (∃ sv, lead.suspectValue = some sv ∧ |v - sv| ≤ lead.settings.filter) then .confirmed
      else if lead.holdCount = 3 then .capped
      else .held)
  ∧ (∀ (kind : Kind) (v : Int), -2147483648 ≤ v → v ≤ 2147483647 → clampTick kind v = clamped kind v)
  ∧ [TickOutcome.noRecord, .accepted, .confirmed, .capped, .held].map TickOutcome.number = [0, 1, 2, 3, 4]

/-- R72: a HELD tick stores the suspect value and raises the hold count in the lead, sets every mirror's suspect flag and HELD, makes
the mirrors due and changes nothing else.  In a state where chains hold each LIVE slot once. -/
def Obligations.HeldTickStoresPrint : Prop :=
  ∀ (s : State) (a b c kindByte v3 v2 v1 v0 : Byte) (reply : Bool) (kind : Kind) (lead : Nat) (others : List Nat),
    s.ChainsSound → s.Ready .tick ⟨0x20, [a, b, c, kindByte, v3, v2, v1, v0]⟩ reply →
    1 ≤ number24 a b c → number24 a b c ≤ 1048575 → kindByte.toNat = kind.number → kind.number ≤ 3 →
    s.mirrors (number24 a b c) kind = lead :: others →
    guardVerdict (s.slot lead) (clamped kind (signed32 v3 v2 v1 v0)) = .held →
    ∃ t : State,
      exec .tick s = .next (t.answered ⟨0x20, [a, b, c, kindByte, v3, v2, v1, v0]⟩ reply .ok [4, 0])
      ∧ (∀ k, t.slot k =
          if k ∈ lead :: others then
            s.madeDue k { s.slot k with
              suspect := true
              suspectValue := if k = lead then some (clamped kind (signed32 v3 v2 v1 v0)) else (s.slot k).suspectValue
              holdCount := if k = lead then (s.slot k).holdCount + 1 else (s.slot k).holdCount }
          else s.slot k)
      ∧ ((s.slot lead).holdCount ≤ 3 → 1 ≤ (t.slot lead).holdCount ∧ (t.slot lead).holdCount ≤ 3)
      ∧ t = { s.taken reply with
          ftb := { s.ftb with slots := t.ftb.slots }
          stu := { s.stu with sticky := s.stu.sticky ||| 0x20 }
          ptr := { s.ptr with queue := s.queueWith (lead :: others) } }

/-- A BID, ASK or SIZE tick that counts as accepted clears the guard and sets the clamped value on every mirror of the key, with its
class, a TICK highlight unless an ALERT runs, and each mirror's own band evaluation in chain order; the mirrors become due
(R69, R73 to R76, R86, R87).  In a state where chains hold each LIVE slot once. -/
def Obligations.AcceptedTickSetsMirrors : Prop :=
  ∀ (s : State) (a b c kindByte v3 v2 v1 v0 : Byte) (reply : Bool) (kind : Kind) (lead : Nat) (others : List Nat),
    s.ChainsSound → s.Ready .tick ⟨0x20, [a, b, c, kindByte, v3, v2, v1, v0]⟩ reply →
    1 ≤ number24 a b c → number24 a b c ≤ 1048575 → kindByte.toNat = kind.number → kind.number ≤ 3 → kind ≠ .last →
    s.mirrors (number24 a b c) kind = lead :: others →
    guardVerdict (s.slot lead) (clamped kind (signed32 v3 v2 v1 v0)) ≠ .held →
    ∃ t : State,
      (let v := clamped kind (signed32 v3 v2 v1 v0)
       let x := fun k => ((s.slot k).guardCleared (k == lead)).taking v (changeClass (s.slot lead).current v) s.agu.flashFrames
       let (alerts, sticky) :=
         crossings (((lead :: others).filter (fun k => (x k).crosses)).map (fun k => crossingEntry k (x k)))
           s.alerts s.stu.sticky
       exec .tick s = .next (t.answered ⟨0x20, [a, b, c, kindByte, v3, v2, v1, v0]⟩ reply .ok
         [BitVec.ofNat 8 (guardVerdict (s.slot lead) v).number, BitVec.ofNat 8 (others.length + 1)])
       ∧ (∀ k, t.slot k =
           if k ∈ lead :: others then s.madeDue k ((x k).evaluated s.agu.alertFrames) else s.slot k)
       ∧ t = { s.taken reply with
           ftb := { s.ftb with slots := t.ftb.slots }
           alerts := alerts
           stu := { s.stu with sticky := sticky }
           ptr := { s.ptr with queue := s.queueWith (lead :: others) } })

/-- An accepted LAST value is applied to the LAST mirrors and then fanned out to the NET, HIGH and LOW mirrors of its instrument, each
in chain order: NET takes the saturated difference when it has a reference, HIGH and LOW move when the value exceeds or undercuts
them, every stale flag among them is cleared; the records set or freshened become due and those set are counted (R70, R73 to R82).
In a state where chains hold each LIVE slot once. -/
def Obligations.LastValueFansOut : Prop :=
  ∀ (s : State) (a b c kindByte v3 v2 v1 v0 : Byte) (reply : Bool) (outcome : TickOutcome) (direction : Direction),
    s.ChainsSound → s.Ready .tick ⟨0x20, [a, b, c, kindByte, v3, v2, v1, v0]⟩ reply →
    1 ≤ number24 a b c → number24 a b c ≤ 1048575 → kindByte.toNat = 2 →
    (let n := number24 a b c
     let v := clamped .last (signed32 v3 v2 v1 v0)
     let affected := s.mirrors n .last ++ s.mirrors n .net ++ s.mirrors n .high ++ s.mirrors n .low
     (match s.lead n .last with
       | none => affected ≠ [] ∧ outcome = .accepted ∧ direction = .first
       | some l => outcome = guardVerdict (s.slot l) v ∧ outcome ≠ .held ∧ direction = changeClass (s.slot l).current v) →
     ∃ t : State,
       (let x := s.traded v direction
        let set := affected.filter (s.tradeSets v)
        let due := affected.filter (fun k => s.tradeSets v k || (s.slot k).stale)
        let (alerts, sticky) :=
          crossings ((set.filter (fun k => (x k).crosses)).map (fun k => crossingEntry k (x k))) s.alerts s.stu.sticky
        exec .tick s = .next (t.answered ⟨0x20, [a, b, c, kindByte, v3, v2, v1, v0]⟩ reply .ok
          [BitVec.ofNat 8 outcome.number, BitVec.ofNat 8 set.length])
        ∧ (∀ k, t.slot k =
            if k ∈ affected then
              (let y := if s.tradeSets v k then (x k).evaluated s.agu.alertFrames else x k
               if k ∈ due then s.madeDue k y else y)
            else s.slot k)
        ∧ t = { s.taken reply with
            ftb := { s.ftb with slots := t.ftb.slots }
            alerts := alerts
            stu := { s.stu with sticky := sticky }
            ptr := { s.ptr with queue := s.queueWith due } }))

/-! ## REFER, EXTREMES_CLEAR, STALE, ALERTS, bands and becoming due -/

/-- REFER and EXTREMES_CLEAR refuse by their checks; accepted, they set every NET record, or every HIGH and LOW record, of the
instrument afresh, in chain order, with each record's band evaluation, and make it due (R83, R84).  That EXTREMES_CLEAR evaluates
the HIGH records before the LOW ones is the model's choice (log entry 22).  In a state where chains hold each LIVE slot once. -/
def Obligations.ReferAndExtremesSetAfresh : Prop :=
  (∀ (s : State) (a b c flag r3 r2 r1 r0 : Byte) (reply : Bool), s.ChainsSound →
    s.Ready .refer ⟨0x22, [a, b, c, flag, r3, r2, r1, r0]⟩ reply →
    (let m : Message := ⟨0x22, [a, b, c, flag, r3, r2, r1, r0]⟩
     let n := number24 a b c
     let reference := if flag = 1 then some (max (signed32 r3 r2 r1 r0) (-2147483647)) else none
     let nets := s.mirrors n .net
     let x := fun k => (s.slot k).withReference reference
     let (alerts, sticky) :=
       crossings ((nets.filter (fun k => (x k).crosses)).map (fun k => crossingEntry k (x k))) s.alerts s.stu.sticky
     ((n = 0 ∨ 1048575 < n ∨ 1 < flag.toNat) → exec .refer s = .next (s.answered m reply .badArg []))
     ∧ (1 ≤ n → n ≤ 1048575 → flag.toNat ≤ 1 → ∃ t : State,
         exec .refer s = .next (t.answered m reply .ok [])
         ∧ (∀ k, t.slot k = if k ∈ nets then s.madeDue k ((x k).evaluated s.agu.alertFrames) else s.slot k)
         ∧ t = { s.taken reply with
             ftb := { s.ftb with slots := t.ftb.slots }, alerts := alerts, stu := { s.stu with sticky := sticky }
             ptr := { s.ptr with queue := s.queueWith nets } })))
  ∧ ∀ (s : State) (a b c : Byte) (reply : Bool), s.ChainsSound → s.Ready .extremesClear ⟨0x23, [a, b, c]⟩ reply →
    (let m : Message := ⟨0x23, [a, b, c]⟩
     let n := number24 a b c
     let value := (s.lead n .last).bind (fun l => (s.slot l).current)
     let records := s.mirrors n .high ++ s.mirrors n .low
     let x := fun k => (s.slot k).restartedAt value
     let (alerts, sticky) :=
       crossings ((records.filter (fun k => (x k).crosses)).map (fun k => crossingEntry k (x k))) s.alerts s.stu.sticky
     ((n = 0 ∨ 1048575 < n) → exec .extremesClear s = .next (s.answered m reply .badArg []))
     ∧ (1 ≤ n → n ≤ 1048575 → ∃ t : State,
         exec .extremesClear s = .next (t.answered m reply .ok [])
         ∧ (∀ k, t.slot k = if k ∈ records then s.madeDue k ((x k).evaluated s.agu.alertFrames) else s.slot k)
         ∧ t = { s.taken reply with
             ftb := { s.ftb with slots := t.ftb.slots }, alerts := alerts, stu := { s.stu with sticky := sticky }
             ptr := { s.ptr with queue := s.queueWith records } }))

/-- STALE sets the stale flag on every LIVE record of the instrument, whatever its kind, makes each due and changes nothing else (R85).
In a state where chains hold exactly the LIVE slots. -/
def Obligations.StaleMarksInstrument : Prop :=
  ∀ (s : State) (a b c : Byte) (reply : Bool), s.ChainsSound → s.Ready .stale ⟨0x24, [a, b, c]⟩ reply →
    (let m : Message := ⟨0x24, [a, b, c]⟩
     let n := number24 a b c
     let named := fun k => s.isLive k && (s.slot k).instrument == n
     ((n = 0 ∨ 1048575 < n) → exec .stale s = .next (s.answered m reply .badArg []))
     ∧ (1 ≤ n → n ≤ 1048575 → ∃ t : State,
         exec .stale s = .next (t.answered m reply .ok [])
         ∧ (∀ k, t.slot k = if named k then s.madeDue k { s.slot k with stale := true } else s.slot k)
         ∧ t = { s.taken reply with
             ftb := { s.ftb with slots := t.ftb.slots }
             ptr := { s.ptr with queue := s.ptr.queue ++ allSlots.filter (fun k => named k && s.joins k) } }))

/-- R91: ALERTS refuses a count outside 1..8 with BADARG, and otherwise removes the oldest entries, as many as asked for and held, and
answers with their number and the entries, oldest first, whether or not a reply is owed; no record changes. -/
def Obligations.AlertsRemovesOldest : Prop :=
  ∀ (s : State) (n : Byte) (reply : Bool), s.Ready .alerts ⟨0x25, [n]⟩ reply →
    (let m : Message := ⟨0x25, [n]⟩
     ((n.toNat = 0 ∨ 8 < n.toNat) → exec .alerts s = .next (s.answered m reply .badArg []))
     ∧ (1 ≤ n.toNat → n.toNat ≤ 8 → ∃ out kept : List AlertEntry, s.alerts = out ++ kept
         ∧ out.length = min n.toNat s.alerts.length
         ∧ exec .alerts s = .next (({ s with alerts := kept } : State).answered m reply .ok
             (BitVec.ofNat 8 out.length :: out.flatMap (fun e =>
               bytes16 e.slot ++ bytes24 e.instrument ++ [BitVec.ofNat 8 e.kind.number, BitVec.ofNat 8 e.band.number]
                 ++ bytesS32 e.value)))))

/-- Band evaluation sets the band state and the alert flag; a rise of the condition is a crossing, which starts an ALERT highlight of Fa
frames and enters the slot in the alert list, in place, after the newest, or lost with ALERT_LOST (R86, R87, R88, R90). -/
def Obligations.BandEvaluationAndCrossing : Prop :=
  ∀ (s : State) (k : Nat),
    (let r := s.slot k
     let t := s.evaluateBand k
     t.slot k = r.evaluated s.agu.alertFrames
     ∧ (∀ j, j ≠ k → t.slot j = s.slot j)
     ∧ t = { s with
         ftb := { s.ftb with slots := t.ftb.slots }
         alerts := if r.crosses then entered s.alerts (crossingEntry k r) else s.alerts
         stu := { s.stu with
           sticky := s.stu.sticky ||| (if r.crosses ∧ lost s.alerts (crossingEntry k r) then 0x40 else 0) } })

/-- The records made due join the field queue as one group, in ascending slot order, each once: a queued one keeps its place, a LIVE one
of a FROZEN panel has its due flag set, any other goes to the tail (R140, R141). -/
def Obligations.DueRecordsJoinAsGroup : Prop :=
  ∀ (s : State) (due : List Nat),
    (let t := s.joinGroup due
     (∀ k, t.slot k = if k ∈ due then s.madeDue k (s.slot k) else s.slot k)
     ∧ t = { s with ftb := { s.ftb with slots := t.ftb.slots }, ptr := { s.ptr with queue := s.queueWith due } }
     ∧ (ascending due).Pairwise (· < ·) ∧ ∀ k, k ∈ ascending due ↔ k ∈ due ∧ k < 1024)

/-! ## Panels -/

/-- PANEL_OPEN makes the checks of R113 in their order; accepted, it gives the panel its rectangle and bank and makes it OPEN, and writes
no cell and no claim (R113, R114). -/
def Obligations.PanelOpenSetsRectangle : Prop :=
  ∀ (s : State) (p page row col height width bankByte : Byte) (reply : Bool),
    s.Ready .panelOpen ⟨0x30, [p, page, row, col, height, width, bankByte]⟩ reply →
    (let m : Message := ⟨0x30, [p, page, row, col, height, width, bankByte]⟩
     let checks : List (Bool × Result) :=
       [(31 < p.toNat, .badArg), (3 < page.toNat, .badArg), (height.toNat = 0 ∨ 50 < height.toNat, .badArg),
        (width.toNat = 0 ∨ 132 < width.toNat, .badArg), (1 < bankByte.toNat, .badArg),
        (50 < row.toNat + height.toNat ∨ 132 < col.toNat + width.toNat, .outside), ((s.panel p.toNat).isSome, .inUse)]
     (∀ r, firstRefusal checks = some r → exec .panelOpen s = .next (s.answered m reply r []))
     ∧ (firstRefusal checks = none → ∃ t : State,
         exec .panelOpen s = .next (t.answered m reply .ok [])
         ∧ (∀ q, t.panel q = if q = p.toNat then
               some { frozen := false, page := page.toNat, row := row.toNat, col := col.toNat, height := height.toNat
                      width := width.toNat, bank := if bankByte = 0 then .a else .b }
             else s.panel q)
         ∧ t = { s.taken reply with panels := t.panels }))

/-- PANEL_CLOSE refuses by its checks; else it retires every LIVE record of the panel in ascending slot order, each as RETIRE does, and
makes the panel CLOSED, leaving it no LIVE record (R115). -/
def Obligations.PanelCloseRetiresRecords : Prop :=
  ∀ (s : State) (p : Byte) (reply : Bool), s.Ready .panelClose ⟨0x31, [p]⟩ reply →
    (let m : Message := ⟨0x31, [p]⟩
     let records := allSlots.filter (fun k => s.isLive k && (s.slot k).panel == p.toNat)
     (31 < p.toNat → exec .panelClose s = .next (s.answered m reply .badArg []))
     ∧ (p.toNat ≤ 31 → s.panel p.toNat = none → exec .panelClose s = .next (s.answered m reply .noPanel []))
     ∧ (p.toNat ≤ 31 → s.panel p.toNat ≠ none → ∃ t : State,
         exec .panelClose s = .next (t.answered m reply .ok [])
         ∧ t = (records.foldl State.retire (s.taken reply)).setPanel p.toNat none
         ∧ (∀ q, t.panel q = if q = p.toNat then none else s.panel q)
         ∧ (∀ k, (t.slot k).state = if k ∈ records then .retiring else (s.slot k).state)
         ∧ t.alerts = s.alerts.filter (fun e => e.slot ∉ records)
         ∧ t.ptr = { s.ptr with queue := s.ptr.queue ++ records.filter (fun k => !(s.slot k).queued) }
         ∧ t.ftb.claims = s.ftb.claims))

/-- PANEL_FREEZE takes the queued LIVE records of an OPEN panel out of the field queue and sets their due flags; PANEL_THAW queues the due
LIVE records of a FROZEN panel in ascending slot order; each leaves a panel already so as it is (R116, R118). -/
def Obligations.FreezeDefersAndThawResumes : Prop :=
  (∀ (s : State) (p : Byte) (reply : Bool), s.Ready .panelFreeze ⟨0x32, [p]⟩ reply →
    (let m : Message := ⟨0x32, [p]⟩
     let waiting := fun k => k < 1024 && s.isLive k && (s.slot k).panel == p.toNat && (s.slot k).queued
     (31 < p.toNat → exec .panelFreeze s = .next (s.answered m reply .badArg []))
     ∧ (p.toNat ≤ 31 → s.panel p.toNat = none → exec .panelFreeze s = .next (s.answered m reply .noPanel []))
     ∧ ∀ e, p.toNat ≤ 31 → s.panel p.toNat = some e →
         (e.frozen = true → exec .panelFreeze s = .next (s.answered m reply .ok []))
         ∧ (e.frozen = false → ∃ t : State,
             exec .panelFreeze s = .next (t.answered m reply .ok [])
             ∧ (∀ q, t.panel q = if q = p.toNat then some { e with frozen := true } else s.panel q)
             ∧ (∀ k, t.slot k = if waiting k then { s.slot k with queued := false, due := true } else s.slot k)
             ∧ t = { s.taken reply with
                 panels := t.panels, ftb := { s.ftb with slots := t.ftb.slots }
                 ptr := { s.ptr with queue := s.ptr.queue.filter (fun k => !waiting k) } })))
  ∧ ∀ (s : State) (p : Byte) (reply : Bool), s.Ready .panelThaw ⟨0x33, [p]⟩ reply →
    (let m : Message := ⟨0x33, [p]⟩
     let deferred := fun k => s.isLive k && (s.slot k).panel == p.toNat && (s.slot k).due
     (31 < p.toNat → exec .panelThaw s = .next (s.answered m reply .badArg []))
     ∧ (p.toNat ≤ 31 → s.panel p.toNat = none → exec .panelThaw s = .next (s.answered m reply .noPanel []))
     ∧ ∀ e, p.toNat ≤ 31 → s.panel p.toNat = some e →
         (e.frozen = false → exec .panelThaw s = .next (s.answered m reply .ok []))
         ∧ (e.frozen = true → ∃ t : State,
             exec .panelThaw s = .next (t.answered m reply .ok [])
             ∧ (∀ q, t.panel q = if q = p.toNat then some { e with frozen := false } else s.panel q)
             ∧ (∀ k, t.slot k =
                 if k < 1024 && deferred k then { s.slot k with queued := true, due := false } else s.slot k)
             ∧ t = { s.taken reply with
                 panels := t.panels, ftb := { s.ftb with slots := t.ftb.slots }
                 ptr := { s.ptr with queue := s.ptr.queue ++ allSlots.filter deferred } }))

/-- PANEL_MOVE makes the checks of R119 in their order; accepted, it sets the panel's page and origin and treats its LIVE records in
ascending slot order: one that still claims old cells asks for a blank into each of them, one that claims none is re-anchored, claims
its new span and is made due at once, and after the last the execution ends (R119, R120, R128).  That a record's blanks are asked for
from left to right is the model's choice (log entry 23). -/
def Obligations.PanelMoveVacatesAndClaims : Prop :=
  (∀ (s : State) (p page row col : Byte) (reply : Bool), s.Ready .panelMove ⟨0x34, [p, page, row, col]⟩ reply →
    (let m : Message := ⟨0x34, [p, page, row, col]⟩
     let records := allSlots.filter (fun k => s.isLive k && (s.slot k).panel == p.toNat)
     let newSpan := fun k => spanCells page.toNat (row.toNat + (s.slot k).rowOffset) (col.toNat + (s.slot k).colOffset)
       (s.slot k).width
     let checks : List (Bool × Result) :=
       [(31 < p.toNat, .badArg), (3 < page.toNat, .badArg), ((s.panel p.toNat).isNone, .noPanel),
        ((s.panel p.toNat).any (fun e => !e.frozen), .notFrozen),
        ((s.panel p.toNat).any (fun e => 50 < row.toNat + e.height ∨ 132 < col.toNat + e.width), .outside),
        (records.any (fun k => (newSpan k).any (fun c =>
          (s.claim c).any (fun j => s.isLive j && (s.slot j).panel != p.toNat))), .collide)]
     (∀ r, firstRefusal checks = some r → exec .panelMove s = .next (s.answered m reply r []))
     ∧ (firstRefusal checks = none → ∃ e, s.panel p.toNat = some e
         ∧ exec .panelMove s = .next (moveNext m p.toNat (s.scheme .a 15) records
             ((s.taken reply).setPanel p.toNat
               (some { e with page := page.toNat, row := row.toNat, col := col.toNat }))))))
  ∧ (∀ (m : Message) (p cleared : Nat) (u : State), moveNext m p cleared [] u = u.finished m)
  ∧ (∀ (m : Message) (p cleared k : Nat) (rest : List Nat) (u : State),
      (let r := u.slot k
       let held := (spanCells r.page r.row r.col r.width).filter (fun c => u.claim c == some k)
       moveNext m p cleared (k :: rest) u =
         if held = [] then moveNext m p cleared rest (u.reclaim k)
         else
           { u with
             mdc := .moving m p cleared k (held.map (fun c => { cell := c, char := 0x20, attr := cleared })) rest }))
  ∧ ∀ (u : State) (k : Nat) (e : Panel), u.panel (u.slot k).panel = some e →
      (let r := u.slot k
       let t := u.reclaim k
       let x : Record := { r with page := e.page, row := e.row + r.rowOffset, col := e.col + r.colOffset }
       let held : Bool := u.isLive k && u.isFrozen r.panel
       t.slot k = { x with queued := r.queued || !held, due := r.due || (!r.queued && held) }
       ∧ (∀ j, j ≠ k → t.slot j = u.slot j)
       ∧ (∀ c, t.claim c = if c ∈ spanCells x.page x.row x.col x.width then some k else u.claim c)
       ∧ t = { u with
           ftb := { u.ftb with slots := t.ftb.slots, claims := t.ftb.claims }
           ptr := { u.ptr with queue := if r.queued || held then u.ptr.queue else u.ptr.queue ++ [k] } })

/-- A granted vacating write blanks and releases a cell that still names the record and is dropped otherwise; a granted TEXT or FILL
write goes into an unclaimed cell and is dropped at any other; either sets the mark to MDC, and the last ends the record's vacating or
the command (R121, R155, R156, R174 to R176).  MDC is granted when the Painter has no write pending or the mark names the Painter, in
the model's reading of a grant and its write as one step (log entry 12); otherwise nothing changes (log entry 1). -/
def Obligations.MdcWriteGrants : Prop :=
  (∀ (s : State) (m : Message) (p cleared k : Nat) (w : CellWrite) (ws : List CellWrite) (rest : List Nat),
    s.resetLow = false → s.mdc = .moving m p cleared k (w :: ws) rest →
    ((s.ptrPending = none ∨ s.cst.mark = .ptr) → ∃ u : State,
      (∀ c, u.cell c = if c = w.cell ∧ s.claim c = some k then { char := w.char, attr := w.attr } else s.cell c)
      ∧ (∀ c, u.claim c = if c = w.cell ∧ s.claim c = some k then none else s.claim c)
      ∧ u = { s with cst := { cells := u.cst.cells, mark := .mdc }, ftb := { s.ftb with claims := u.ftb.claims } }
      ∧ exec .vacateWriteGrant s = .next
          (if ws = [] then moveNext m p cleared rest (u.reclaim k)
           else { u with mdc := .moving m p cleared k ws rest }))
    ∧ (s.ptrPending ≠ none → s.cst.mark = .mdc → exec .vacateWriteGrant s = .next s))
  ∧ ∀ (s : State) (m : Message) (w : CellWrite) (ws : List CellWrite),
    s.resetLow = false → s.mdc = .writing m (w :: ws) →
    ((s.ptrPending = none ∨ s.cst.mark = .ptr) → ∃ u : State,
      (∀ c, u.cell c = if c = w.cell ∧ s.claim c = none then { char := w.char, attr := w.attr } else s.cell c)
      ∧ u = { s with cst := { cells := u.cst.cells, mark := .mdc } }
      ∧ exec .textWriteGrant s = .next (if ws = [] then u.finished m else { u with mdc := .writing m ws }))
    ∧ (s.ptrPending ≠ none → s.cst.mark = .mdc → exec .textWriteGrant s = .next s)

/-! ## Attributes and schemes -/

/-- R125: ATTR_SET makes its four checks in order; accepted, it replaces the named entry, the styles from bits 0 to 3 of the style byte,
and changes nothing else. -/
def Obligations.AttrSetReplacesEntry : Prop :=
  ∀ (s : State) (i fore back style : Byte) (reply : Bool), s.Ready .attrSet ⟨0x40, [i, fore, back, style]⟩ reply →
    (let m : Message := ⟨0x40, [i, fore, back, style]⟩
     let checks : List (Bool × Result) :=
       [(63 < i.toNat, .badArg), (15 < fore.toNat, .badArg), (15 < back.toNat, .badArg), (15 < style.toNat, .badArg)]
     (∀ r, firstRefusal checks = some r → exec .attrSet s = .next (s.answered m reply r []))
     ∧ (firstRefusal checks = none → ∃ t : State,
         exec .attrSet s = .next (t.answered m reply .ok [])
         ∧ (∀ j, t.attr j = if j = i.toNat then
               { foreground := fore.setWidth 4, background := back.setWidth 4, bold := style.getLsbD 0
                 underline := style.getLsbD 1, reverse := style.getLsbD 2, blink := style.getLsbD 3 }
             else s.attr j)
         ∧ t = { s.taken reply with atu := { s.atu with attrs := t.atu.attrs } }))

/-- SCHEME_SET makes the checks of R136, sets one condition of one bank and makes due every LIVE record whose panel names the bank;
SCHEME_SWAP exchanges the banks and makes every LIVE record due; both in ascending slot order (R136, R137). -/
def Obligations.SchemeCommandsMakeDue : Prop :=
  (∀ (s : State) (bankByte condition index : Byte) (reply : Bool), s.Ready .schemeSet ⟨0x41, [bankByte, condition, index]⟩ reply →
    (let m : Message := ⟨0x41, [bankByte, condition, index]⟩
     let bank : Bank := if bankByte = 0 then .a else .b
     let named := fun k => s.isLive k && (s.panel (s.slot k).panel).any (fun e => e.bank == bank)
     let checks : List (Bool × Result) :=
       [(1 < bankByte.toNat, .badArg), (15 < condition.toNat, .badArg), (63 < index.toNat, .badArg)]
     (∀ r, firstRefusal checks = some r → exec .schemeSet s = .next (s.answered m reply r []))
     ∧ (firstRefusal checks = none → ∃ t : State,
         exec .schemeSet s = .next (t.answered m reply .ok [])
         ∧ (∀ bk c, t.scheme bk c = if bk = bank ∧ c = condition.toNat then index.toNat else s.scheme bk c)
         ∧ (∀ k, t.slot k = if named k then s.madeDue k (s.slot k) else s.slot k)
         ∧ t = { s.taken reply with
             atu := { s.atu with bankA := t.atu.bankA, bankB := t.atu.bankB }
             ftb := { s.ftb with slots := t.ftb.slots }
             ptr := { s.ptr with queue := s.ptr.queue ++ allSlots.filter (fun k => named k && s.joins k) } })))
  ∧ ∀ (s : State) (reply : Bool), s.Ready .schemeSwap ⟨0x42, []⟩ reply → ∃ t : State,
      exec .schemeSwap s = .next (t.answered ⟨0x42, []⟩ reply .ok [])
      ∧ (∀ k, t.slot k = if s.isLive k then s.madeDue k (s.slot k) else s.slot k)
      ∧ t = { s.taken reply with
          atu := { s.atu with bankA := s.atu.bankB, bankB := s.atu.bankA }
          ftb := { s.ftb with slots := t.ftb.slots }
          ptr := { s.ptr with queue := s.ptr.queue ++ allSlots.filter (fun k => s.isLive k && s.joins k) } }

/-! ## Static text and display -/

/-- TEXT and FILL make the checks of Table 10-1 in their order; accepted, MDC presents the writes of the cell list, clipped at the edges of
the target, in order, and the execution goes on until the last grant (R173, R174, R175). -/
def Obligations.TextAndFillListCells : Prop :=
  (∀ (s : State) (m : Message) (reply : Bool), s.Ready .text m reply → 6 ≤ m.params.length → m.params.length ≤ 59 →
    (let p := m.params
     let area := s.textArea (u8 p 0) (u8 p 1)
     let checks := targetChecks s (u8 p 0) (u8 p 1) (u8 p 2) (u8 p 3) ++ ([(63 < u8 p 4, .badArg)] : List (Bool × Result))
     (∀ r, firstRefusal checks = some r → exec .text s = .next (s.answered m reply r []))
     ∧ (firstRefusal checks = none → ∃ ws : List CellWrite,
         exec .text s = .next { s.taken reply with mdc := .writing m ws }
         ∧ 1 ≤ ws.length ∧ ws.length = min (p.length - 5) (area.width - u8 p 3)
         ∧ ∀ i, i < ws.length → ws[i]? = some
             { cell := ((area.page * 50 + (area.row + u8 p 2)) * 132) + (area.col + (u8 p 3 + i))
               char := p.getD (5 + i) 0, attr := u8 p 4 })))
  ∧ ∀ (s : State) (target page row col height width char attr : Byte) (reply : Bool),
    s.Ready .fill ⟨0x51, [target, page, row, col, height, width, char, attr]⟩ reply →
    (let m : Message := ⟨0x51, [target, page, row, col, height, width, char, attr]⟩
     let area := s.textArea target.toNat page.toNat
     let rows := min height.toNat (area.height - row.toNat)
     let cols := min width.toNat (area.width - col.toNat)
     let checks := targetChecks s target.toNat page.toNat row.toNat col.toNat
       ++ ([(height.toNat = 0, .badArg), (width.toNat = 0, .badArg), (63 < attr.toNat, .badArg)] : List (Bool × Result))
     (∀ r, firstRefusal checks = some r → exec .fill s = .next (s.answered m reply r []))
     ∧ (firstRefusal checks = none → ∃ ws : List CellWrite,
         exec .fill s = .next { s.taken reply with mdc := .writing m ws }
         ∧ 1 ≤ ws.length ∧ ws.length = rows * cols
         ∧ ∀ i j, i < rows → j < cols → ws[i * cols + j]? = some
             { cell := ((area.page * 50 + (area.row + (row.toNat + i))) * 132) + (area.col + (col.toNat + j))
               char := char, attr := attr.toNat }))

/-- SHOW sets the pending page, PATTERN the pending pattern state, GLYPH_LOAD the 14 rows of a user glyph; each refuses a value outside its
range with BADARG and changes nothing else (R178, R179, R181). -/
def Obligations.DisplayCommandsSetPending : Prop :=
  (∀ (s : State) (page : Byte) (reply : Bool), s.Ready .showPage ⟨0x60, [page]⟩ reply →
    exec .showPage s = .next
      (if page.toNat ≤ 3 then
        ({ s with dou := { s.dou with pendingPage := some page.toNat } } : State).answered ⟨0x60, [page]⟩ reply .ok []
      else s.answered ⟨0x60, [page]⟩ reply .badArg []))
  ∧ (∀ (s : State) (on : Byte) (reply : Bool), s.Ready .pattern ⟨0x61, [on]⟩ reply →
    exec .pattern s = .next
      (if on.toNat ≤ 1 then
        ({ s with dou := { s.dou with pendingPattern := some (on == 1) } } : State).answered ⟨0x61, [on]⟩ reply .ok []
      else s.answered ⟨0x61, [on]⟩ reply .badArg []))
  ∧ ∀ (s : State) (code : Byte) (rows : List Byte) (reply : Bool), rows.length = 14 →
    s.Ready .glyphLoad ⟨0x62, code :: rows⟩ reply →
    ((code.toNat < 128 ∨ 191 < code.toNat) → exec .glyphLoad s = .next (s.answered ⟨0x62, code :: rows⟩ reply .badArg []))
    ∧ (128 ≤ code.toNat → code.toNat ≤ 191 → ∃ t : State,
        exec .glyphLoad s = .next (t.answered ⟨0x62, code :: rows⟩ reply .ok [])
        ∧ (∀ c, t.glyph c = if c = code.toNat then rows else s.glyph c)
        ∧ t = { s.taken reply with dou := { s.dou with glyphs := t.dou.glyphs } })

/-- A frame start puts the pending page and pattern into effect, advances the blink counter from 31 to 0 again, takes the attribute table
and the user glyphs for the frame, begins 50 lines of vertical blanking at level 0, with HSYNC in the first 32 periods of horizontal
blanking and VSYNC in lines 2 to 4, and adds an owed sweep, or sets AGING_SLIPPED at 8 (R162, R163, R177 to R181, R183, Table 10-6).  It
comes about when no row of the frame before is still to be read; otherwise nothing changes (log entries 1 and 11).  How the frame's rows
and lines are held is the model's (log entry 20), as is that VSYNC lasts whole lines; whether Table 10-6 counts them from 0 or 1 is free
(log entry 24). -/
def Obligations.FrameStartTakesPending : Prop :=
  (∀ (s : State) (row : Nat), s.dou.nextRow = some row → row < 50 → exec .frameStart s = .next s)
  ∧ ∀ s : State, s.resetLow = false → s.dou.blink ≤ 31 → (∀ row, s.dou.nextRow = some row → 50 ≤ row) →
    ∃ lines : List (List VideoPins), lines.length = 50
    ∧ (∀ line, line < 50 → ∃ pins, lines[line]? = some pins ∧ pins.length = 1344
        ∧ ∀ x, x < 1344 → pins[x]? = some
            { levels := { red := 0, green := 0, blue := 0 }, hsync := 1056 ≤ x ∧ x < 1088
              vsync := if Config.blankingLinesFromOne then 1 ≤ line ∧ line ≤ 3 else 2 ≤ line ∧ line ≤ 4 })
    ∧ exec .frameStart s = .next { s with
      dou :=
        { shown := match s.dou.pendingPage with
            | some page => page
            | none => s.dou.shown
          pendingPage := none
          pattern := match s.dou.pendingPattern with
            | some on => on
            | none => s.dou.pattern
          pendingPattern := none
          blink := if s.dou.blink = 31 then 0 else s.dou.blink + 1
          glyphs := s.dou.glyphs, frameAttrs := s.atu.attrs, frameGlyphs := s.dou.glyphs
          nextRow := some 0, rowCells := [], video := .lines lines }
      agu := { s.agu with owed := if s.agu.owed < 8 then s.agu.owed + 1 else s.agu.owed }
      stu := { s.stu with sticky := if s.agu.owed < 8 then s.stu.sticky else s.stu.sticky ||| 0x80 } }

/-- A row read takes the 132 cells of the next row of the shown page and draws its 14 lines from them: 1056 pixels coloured by pattern, or
by attribute entry, blink phase, glyph, bold and underline, then 288 blanking periods at level 0, HSYNC in the first 32 and VSYNC in none
(R177, R179, R181 to R183, Table 10-6).  How the row and its lines are held is the model's (log entry 20). -/
def Obligations.RowReadDrawsCells : Prop :=
  (∀ (s : State) (row : Nat), s.resetLow = false → s.dou.nextRow = some row → row < 50 →
    ∃ (t : State) (lines : List (List VideoPins)),
    exec .rowRead s = .next t
    ∧ t.dou.nextRow = some (row + 1) ∧ t.dou.rowCells.length = 132 ∧ t.dou.video = .lines lines ∧ lines.length = 14
    ∧ (∀ col, col < 132 → t.dou.rowCells[col]? = some (s.cell ((s.dou.shown * 50 + row) * 132 + col)))
    ∧ (∀ line, line < 14 → ∃ pins, lines[line]? = some pins ∧ pins.length = 1344
        ∧ (∀ col x, col < 132 → x < 8 → pins[col * 8 + x]? = some
            { levels := outputLevels (s.dou.drawnColour (s.cell ((s.dou.shown * 50 + row) * 132 + col)) row col line x)
              hsync := false, vsync := false })
        ∧ ∀ x, 1056 ≤ x → x < 1344 → pins[x]? = some
            { levels := { red := 0, green := 0, blue := 0 }, hsync := x < 1088, vsync := false })
    ∧ t = { s with dou := { s.dou with
        nextRow := t.dou.nextRow, rowCells := t.dou.rowCells, video := t.dou.video } })
  ∧ ∀ (d : Dou) (code : Byte) (row : Nat),
    (code.toNat ≤ 0x20 ∨ code.toNat = 0x7F ∨ 0xE0 ≤ code.toNat → d.glyphRow code row = 0)
    ∧ (0x80 ≤ code.toNat → code.toNat ≤ 0xBF →
        d.glyphRow code row = (Table.get blankGlyph d.frameGlyphs code.toNat).getD row 0)
    ∧ (code = 0xDB → d.glyphRow code row = 0xFF)

/-! ## Status, configuration, SYNC -/

/-- STATUS reports the fields of Table 11-2 as they stand, in 15 bytes, then clears the sticky flags its mask names, and changes nothing else
(R187).  NOTICE is asserted exactly when a sticky flag and its enable are both set, or the alert notice enable is set and the alert list
holds an entry (R186). -/
def Obligations.StatusReportsThenClears : Prop :=
  (∀ (s : State) (mask : Byte) (reply : Bool), s.Ready .status ⟨0x70, [mask]⟩ reply →
    (let data := [s.stu.sticky, BitVec.ofNat 8 s.alerts.length] ++ bytes16 s.ptr.queue.length
       ++ [BitVec.ofNat 8 s.agu.owed] ++ bytes16 s.ftb.liveCount ++ bytes16 s.ftb.retiringCount ++ bytes16 s.ftb.freeCount
       ++ [BitVec.ofNat 8 s.dou.shown,
           match s.dou.pendingPage with
           | some page => BitVec.ofNat 8 page
           | none => 0xFF,
           if s.dou.pattern then 1 else 0, s.lki.unitAddress.setWidth 8]
     ∃ t : State, exec .status s = .next (t.answered ⟨0x70, [mask]⟩ reply .ok data) ∧ data.length = 15
       ∧ (∀ i, i < 8 → t.stu.sticky.getLsbD i = (s.stu.sticky.getLsbD i && !mask.getLsbD i))
       ∧ t = { s.taken reply with stu := { s.stu with sticky := t.stu.sticky } }))
  ∧ ∀ s : State, s.noticeAsserted = true ↔
      (∃ i, i < 8 ∧ s.stu.sticky.getLsbD i = true ∧ s.stu.flagEnables.getLsbD i = true)
      ∨ s.stu.alertEnable = true ∧ s.alerts ≠ []

/-- R189: CONFIG refuses only an alert notice enable other than 0 or 1; accepted, it stores every value at once, with Ff, Fa and the
threshold clamped as R167 gives. -/
def Obligations.ConfigStoresSettings : Prop :=
  ∀ (s : State) (ff fa t1 t0 gap enables alert : Byte) (reply : Bool),
    s.Ready .config ⟨0x71, [ff, fa, t1, t0, gap, enables, alert]⟩ reply →
    exec .config s = .next
      (if 1 < alert.toNat then s.answered ⟨0x71, [ff, fa, t1, t0, gap, enables, alert]⟩ reply .badArg []
      else
        ({ s with
          agu := { s.agu with
            flashFrames := if ff = 0 then 1 else ff.toNat
            alertFrames := if fa = 0 then 1 else fa.toNat
            threshold := if 1023 < t1.toNat * 256 + t0.toNat then 1023 else t1.toNat * 256 + t0.toNat }
          lki := { s.lki with replyGap := gap.toNat }
          stu := { s.stu with flagEnables := enables, alertEnable := alert == 1 } } : State).answered
            ⟨0x71, [ff, fa, t1, t0, gap, enables, alert]⟩ reply .ok [])

/-- SYNC ends at once when the Painter is IDLE and the queue empty; otherwise MDC stays BUSY with the job in hand and the queued slots as
its fence.  The end of a job takes from the fence the job in hand at the take, or the slot of a job taken later; when the fence is
empty the SYNC ends with OK (R157, R158). -/
def Obligations.SyncWaitsForFence : Prop :=
  (∀ (s : State) (reply : Bool), s.Ready .sync ⟨0x72, []⟩ reply →
    exec .sync s = .next
      (if s.ptr.painter = .idle ∧ s.ptr.queue = [] then s.answered ⟨0x72, []⟩ reply .ok []
      else { s.taken reply with mdc := .syncing ⟨0x72, []⟩ (s.ptr.painter ≠ .idle) s.ptr.queue }))
  ∧ (∀ (s : State) (m : Message) (inHand : Bool) (slots : List Nat) (k : Nat), s.mdc = .syncing m inHand slots →
    (let left := if inHand then slots else slots.filter (fun j => j ≠ k)
     s.jobEnded k = if left = [] then s.finished m else { s with mdc := .syncing m false left }))
  ∧ ∀ (s : State) (k : Nat), (∀ m inHand slots, s.mdc ≠ .syncing m inHand slots) → s.jobEnded k = s

/-! ## The Painter -/

/-- The IDLE Painter takes the head of the field queue and clears its queued flag.  A LIVE slot becomes a paint job: its string, its flash
mask, formed and stored when the new-value flag is set, which is then cleared, and one write for each position with the index of its
condition in the panel's bank.  A RETIRING slot becomes a clear job of the cells it still claims, and is freed at once when it claims
none (R128, R143 to R146, R149, R151). -/
def Obligations.PainterTakesHeadJob : Prop :=
  ∀ (s : State) (k : Nat) (rest : List Nat), s.resetLow = false → s.ptr.painter = .idle → s.ptr.queue = k :: rest →
    (let r := s.slot k
     (r.state = .live → ∀ e, s.panel r.panel = some e → ∃ (t : State) (sn : Snapshot) (ws : List CellWrite) (mask : List Nat),
       (let (string, overflow) := formatValue r.current r.settings.format r.width
        exec .painterTake s = .next t
        ∧ (∀ j, t.slot j = if j = k then { r with queued := false, newValue := false, mask := mask } else s.slot j)
        ∧ (r.newValue = false → mask = r.mask)
        ∧ (r.newValue = true → ∀ i, i ∈ mask ↔ inNewMask r string overflow i)
        ∧ sn = { r.snapshot with mask := mask }
        ∧ ws.length = r.width
        ∧ (∀ i, i < r.width → ws[i]? = some
            { cell := (r.page * 50 + r.row) * 132 + (r.col + i), char := string.getD i 0x20
              attr := s.scheme e.bank (chosenCondition r overflow mask i) })
        ∧ t = { s with
            ftb := { s.ftb with slots := t.ftb.slots }
            ptr := { queue := rest, painter := .painting k sn e.bank string ws } }))
     ∧ (r.state = .retiring →
       (let held := (spanCells r.page r.row r.col r.width).filter (fun c => s.claim c == some k)
        (held ≠ [] → ∃ t : State, exec .painterTake s = .next t
          ∧ (∀ j, t.slot j = if j = k then { r with queued := false } else s.slot j)
          ∧ t = { s with
              ftb := { s.ftb with slots := t.ftb.slots }
              ptr := { queue := rest
                       painter := .clearing k (held.map (fun c => { cell := c, char := 0x20, attr := s.scheme .a 15 })) } })
        ∧ (held = [] → ∃ t : State, exec .painterTake s = .next (t.jobEnded k)
          ∧ (∀ j, t.slot j = if j = k then Record.empty else s.slot j)
          ∧ t = { s with
              ftb := { s.ftb with
                slots := t.ftb.slots, retiringCount := s.ftb.retiringCount - 1, freeCount := s.ftb.freeCount + 1 }
              ptr := { queue := rest, painter := .idle } }))))

/-- A granted write of a LIVE job goes into a cell claimed by the job's slot and is dropped otherwise; the last stores the string as the
painted image.  A granted write of a clear job blanks and releases a cell the slot still claims; the last makes the slot FREE.  Each
sets the mark to PTR, and each job's end may end a SYNC (R147, R148, R150, R151, R155, R156, R158).  PTR is granted when MDC has no
write pending or the mark names MDC, in the model's reading of a grant and its write as one step (log entry 12); otherwise nothing changes
(log entry 1).  That a clear job's write into a cell with no claim is dropped is the model's choice (log entry 16). -/
def Obligations.PainterWriteGrants : Prop :=
  (∀ (s : State) (k : Nat) (sn : Snapshot) (bank : Bank) (string : List Byte) (w : CellWrite) (ws : List CellWrite),
    s.resetLow = false → s.ptr.painter = .painting k sn bank string (w :: ws) →
    ((s.mdcPending = none ∨ s.cst.mark = .mdc) → ∃ u : State,
      (∀ c, u.cell c = if c = w.cell ∧ s.claim c = some k then { char := w.char, attr := w.attr } else s.cell c)
      ∧ (∀ j, u.slot j = if j = k ∧ ws = [] then { s.slot k with image := some string } else s.slot j)
      ∧ u = { s with
          cst := { cells := u.cst.cells, mark := .ptr }, ftb := { s.ftb with slots := u.ftb.slots }
          ptr := { s.ptr with painter := if ws = [] then .idle else .painting k sn bank string ws } }
      ∧ exec .paintWriteGrant s = .next (if ws = [] then u.jobEnded k else u))
    ∧ (s.mdcPending ≠ none → s.cst.mark = .ptr → exec .paintWriteGrant s = .next s))
  ∧ ∀ (s : State) (k : Nat) (w : CellWrite) (ws : List CellWrite),
    s.resetLow = false → s.ptr.painter = .clearing k (w :: ws) →
    ((s.mdcPending = none ∨ s.cst.mark = .mdc) → ∃ u : State,
      (∀ c, u.cell c = if c = w.cell ∧ s.claim c = some k then { char := w.char, attr := w.attr } else s.cell c)
      ∧ (∀ c, u.claim c = if c = w.cell ∧ s.claim c = some k then none else s.claim c)
      ∧ (∀ j, u.slot j = if j = k ∧ ws = [] then Record.empty else s.slot j)
      ∧ u = { s with
          cst := { cells := u.cst.cells, mark := .ptr }
          ftb := { s.ftb with
            slots := u.ftb.slots, claims := u.ftb.claims
            retiringCount := if ws = [] then s.ftb.retiringCount - 1 else s.ftb.retiringCount
            freeCount := if ws = [] then s.ftb.freeCount + 1 else s.ftb.freeCount }
          ptr := { s.ptr with painter := if ws = [] then .idle else .clearing k ws } }
      ∧ exec .clearWriteGrant s = .next (if ws = [] then u.jobEnded k else u))
    ∧ (s.mdcPending ≠ none → s.cst.mark = .ptr → exec .clearWriteGrant s = .next s)

/-! ## Aging -/

/-- A sweep, taken when frames are owed and the queue is at most the threshold or 8 are owed, but not within a PANEL_MOVE, lowers every
running age by the frames owed, ends those that reach 0, makes their records due as one group and clears the debt.  Otherwise no sweep
comes about and nothing changes (R164, R165; log entry 1). -/
def Obligations.SweepAgesHighlights : Prop :=
  ∀ s : State, s.resetLow = false →
    (let n := s.agu.owed
     let ends := fun k => 0 < (s.slot k).age && (s.slot k).age ≤ n
     let wanted := 0 < n ∧ (s.ptr.queue.length ≤ s.agu.threshold ∨ n = 8)
       ∧ ∀ m p a k ws rest, s.mdc ≠ .moving m p a k ws rest
     (wanted → ∃ t : State, exec .sweep s = .next t
       ∧ (∀ k, t.slot k =
           if 1024 ≤ k ∨ (s.slot k).age = 0 then s.slot k
           else if ends k then s.madeDue k { s.slot k with highlight := .off, age := 0, mask := [] }
           else { s.slot k with age := (s.slot k).age - n })
       ∧ t = { s with
           ftb := { s.ftb with slots := t.ftb.slots }, agu := { s.agu with owed := 0 }
           ptr := { s.ptr with queue := s.ptr.queue ++ allSlots.filter (fun k => ends k && s.joins k) } })
     ∧ (¬ wanted → exec .sweep s = .next s))

/-! ## The Formatter -/

/-- R101, R102, R103: the first candidate that fits is returned, blanks before it under BLANK fill, zeros between its sign and its first digit
under ZERO fill, with no overflow; with none that fits the string is '#' throughout, with overflow (R107); an absent value gives blanks
(R94).  Every string has exactly W characters (R93). -/
def Obligations.FormattedStringFillsSpan : Prop :=
  ∀ (f : Format) (w : Nat),
    formatValue none f w = (List.replicate w 0x20, false)
    ∧ (∀ (v : Int) (before after : List Form) (c : Form), candidates v f = before ++ c :: after →
        (∀ d ∈ before, w < d.sign.length + d.whole.length + d.tail.length) →
        c.sign.length + c.whole.length + c.tail.length ≤ w →
        (let pad := w - (c.sign.length + c.whole.length + c.tail.length)
         formatValue (some v) f w =
           (if f.fillZero then c.sign ++ List.replicate pad 0x30 ++ c.whole ++ c.tail
            else List.replicate pad 0x20 ++ c.sign ++ c.whole ++ c.tail, false)))
    ∧ (∀ v : Int, (∀ d ∈ candidates v f, w < d.sign.length + d.whole.length + d.tail.length) →
        formatValue (some v) f w = (List.replicate w 0x23, true))
    ∧ ∀ v : Option Int, (formatValue v f w).1.length = w

/-- The candidate forms show the value: magnitudes are reduced by each form's own factor and rounded half up, digits spell the numbers with
no leading zeros, fixed fields have their width, the sign follows V and R, and the forms come in the degrade order, one place fewer each
for DEC and FRAC, then K, M and B for COUNT (R95 to R100, R104 to R106). -/
def Obligations.CandidateFormsShowValue : Prop :=
  (∀ m f : Nat, 0 < f → reduce m f = m / f + (if f ≤ 2 * (m - m / f * f) then 1 else 0) ∧ reduce m 1 = m)
  ∧ (∀ n : Nat, n < 10000000000 → spelled (digitsOf n) = n ∧ (∀ d ∈ digitsOf n, 0x30 ≤ d.toNat ∧ d.toNat ≤ 0x39)
      ∧ (n ≠ 0 → (digitsOf n).head? ≠ some 0x30) ∧ (n = 0 → digitsOf n = [0x30]))
  ∧ (∀ d n : Nat, (fixedDigits d n).length = d ∧ spelled (fixedDigits d n) = n % 10 ^ d
      ∧ ∀ c ∈ fixedDigits d n, 0x30 ≤ c.toNat ∧ c.toNat ≤ 0x39)
  ∧ (∀ (v : Int) (r : Nat) (always : Bool), signOf v r always =
      if r = 0 then [] else if v < 0 then [0x2D] else if 0 < v ∧ always then [0x2B] else [])
  ∧ (∀ (v : Int) (f : Format), f.mode = .dec → ∀ i, (candidates v f)[i]? =
      if i ≤ (if f.degrade then f.display else 0) then
        (let q := f.display - i
         let r := reduce v.natAbs (10 ^ (f.source - q))
         some { sign := signOf v r f.signAlways, whole := digitsOf (r / 10 ^ q)
                tail := if q = 0 then [] else 0x2E :: fixedDigits q (r % 10 ^ q) })
      else none)
  ∧ (∀ (v : Int) (f : Format), f.mode = .frac → ∀ i, (candidates v f)[i]? =
      if i ≤ (if f.degrade then f.display else 0) then
        (let j := f.display - i
         let r := reduce v.natAbs (2 ^ (f.source - j))
         let d := if j ≤ 3 then 1 else if j ≤ 6 then 2 else 3
         some { sign := signOf v r f.signAlways, whole := digitsOf (r / 2 ^ j)
                tail := if j = 0 then [] else 0x27 :: fixedDigits d (r % 2 ^ j) })
      else none)
  ∧ ∀ (v : Int) (f : Format), f.mode = .count →
      (let scaled := fun (scale : Nat) (suffix : List Byte) =>
         (let r := reduce v.natAbs scale
          ({ sign := signOf v r f.signAlways, whole := digitsOf r, tail := suffix } : Form))
       candidates v f = scaled 1 [] ::
         (if f.degrade then [scaled 1000 [0x4B], scaled 1000000 [0x4D], scaled 1000000000 [0x42]] else []))

/-! ## What every step keeps -/

/-- Every table keeps its canonical form, so equal tables stay equal data. -/
def Obligations.TablesStayCanonical : Prop :=
  ∀ s t : State, s.TablesCanonical → step s = .next t → t.TablesCanonical

/-- The inbound queue holds at most 64 entries and the reply queue at most 4 replies, the room found at a take is still there at the end,
a held message fits its length byte, and out of LOUD nothing carries a reply flag (R5, R6, R8, R12, R15, R16). -/
def Obligations.LinkStaysSound : Prop :=
  ∀ s t : State, s.LinkSound → step s = .next t → t.LinkSound

/-- Every count, setting, table and rectangle stays in its range, and no write is asked for outside the Cell Store or the attribute table
(R89, R111, R124, R127, R161, R172, R178, R180, R181), from a sound state. -/
def Obligations.RangesAreKept : Prop :=
  ∀ s t : State, s.Sound → step s = .next t → t.Bounded ∧ t.InRange

/-- The field queue holds each slot at most once, only RETIRING slots and LIVE ones of OPEN panels, with the queued flag set exactly for
them, and every RETIRING slot is in it or in hand (R117, R139, R142); no step of a sound state stops, so no FREE slot is ever taken
(R144). -/
def Obligations.QueueStaysSound : Prop :=
  ∀ s : State, s.Sound → ∃ t, step s = .next t ∧ t.QueueSound

/-- Each LIVE slot stays in exactly the chain its key hashes to, at most 4 to a key, mirrors agree in their shared fields, and guard state
is held by leads alone (R35, R37, R39, R40), from a sound state. -/
def Obligations.KeyIndexStaysSound : Prop :=
  ∀ s t : State, s.Sound → step s = .next t → t.ChainsSound ∧ t.MirrorsAgree ∧ t.GuardSound

/-- A claiming slot is LIVE or RETIRING and the cell lies in its span, and outside a PANEL_MOVE of its panel every LIVE record claims its
whole span, inside its panel's rectangle (R47, R112, R122), from a sound state. -/
def Obligations.ClaimsStaySound : Prop :=
  ∀ s t : State, s.Sound → step s = .next t → t.ClaimsSound

/-- Every record's fields keep their ranges and agree with each other, every listed slot is LIVE and listed once, and FTB's counts are those
of its slots (R22, R23, R26, R27, R29, R31, R32, R89), from a sound state. -/
def Obligations.RecordsStaySound : Prop :=
  ∀ s t : State, s.Sound → step s = .next t → (∀ k, (t.slot k).Sound) ∧ t.AlertsSound ∧ t.Counted

/-- The state after power-on reset keeps every promise. -/
def Obligations.ResetIsSound : Prop := State.reset.Sound

/-! ## Rules over all commands -/

/-- R22: a slot changes state only by BIND from FREE to LIVE, by RETIRE or PANEL_CLOSE from LIVE to RETIRING, and by the end of its clear job
from RETIRING to FREE, power-on reset apart; FTB's counts follow, and sum to 1024.  From a sound state. -/
def Obligations.SlotStatesFollowTable : Prop :=
  ∀ (i : Instr) (s t : State), s.Sound → exec i s = .next t → i ≠ .powerOnReset →
    (∀ k, (t.slot k).state = (s.slot k).state
      ∨ i = .bind ∧ (s.slot k).state = .free ∧ (t.slot k).state = .live
      ∨ (i = .retire ∨ i = .panelClose) ∧ (s.slot k).state = .live ∧ (t.slot k).state = .retiring
      ∨ (i = .clearWriteGrant ∨ i = .painterTake) ∧ (s.slot k).state = .retiring ∧ (t.slot k).state = .free)
    ∧ t.ftb.liveCount = t.countOf .live ∧ t.ftb.retiringCount = t.countOf .retiring ∧ t.ftb.freeCount = t.countOf .free
    ∧ t.ftb.liveCount + t.ftb.retiringCount + t.ftb.freeCount = 1024

/-- State changes only at the events the manual names for it: a set sticky flag goes only by STATUS; cells change only at grants, claims only
by BIND, PANEL_MOVE and its vacating grants, and clear grants; the attribute table, the banks, the user glyphs, the shown page, the unit
address and the settings of CONFIG each only by their own command or event, power-on reset apart (R47, R124, R127, R172, R177, R181, R185,
R190, R191). -/
def Obligations.OnlyNamedEventsChangeState : Prop :=
  ∀ (i : Instr) (s t : State), exec i s = .next t → i ≠ .powerOnReset →
    (i ≠ .status → s.stu.sticky &&& t.stu.sticky = s.stu.sticky)
    ∧ (i ≠ .paintWriteGrant → i ≠ .clearWriteGrant → i ≠ .textWriteGrant → i ≠ .vacateWriteGrant → t.cst = s.cst)
    ∧ (i ≠ .bind → i ≠ .panelMove → i ≠ .vacateWriteGrant → i ≠ .clearWriteGrant → t.ftb.claims = s.ftb.claims)
    ∧ (i ≠ .attrSet → t.atu.attrs = s.atu.attrs)
    ∧ (i ≠ .schemeSet → i ≠ .schemeSwap → t.atu.bankA = s.atu.bankA ∧ t.atu.bankB = s.atu.bankB)
    ∧ (i ≠ .glyphLoad → t.dou.glyphs = s.dou.glyphs)
    ∧ (i ≠ .frameStart → t.dou.shown = s.dou.shown ∧ t.dou.pattern = s.dou.pattern ∧ t.dou.blink = s.dou.blink)
    ∧ ((∀ strap, i ≠ .resetRelease strap) → t.lki.unitAddress = s.lki.unitAddress)
    ∧ (i ≠ .config → t.agu.flashFrames = s.agu.flashFrames ∧ t.agu.alertFrames = s.agu.alertFrames
        ∧ t.agu.threshold = s.agu.threshold ∧ t.lki.replyGap = s.lki.replyGap ∧ t.stu.flagEnables = s.stu.flagEnables
        ∧ t.stu.alertEnable = s.stu.alertEnable)
    ∧ (i ≠ .panelOpen → i ≠ .panelClose → i ≠ .panelFreeze → i ≠ .panelThaw → i ≠ .panelMove → t.panels = s.panels)
end

