-- ==== Sys2Proof/Laws/State.lean ====
section
/-!
SUPPORT. What each named update of the state leaves in each field: one lemma for each field and each update, so that no later proof
unfolds a record update.
-/

namespace Sys2Proof.Machine

section raise
variable (s : State) (f : StickyFlag)
@[simp] theorem State.raise_pending : (s.raise f).pending = s.pending := rfl
@[simp] theorem State.raise_resetLow : (s.raise f).resetLow = s.resetLow := rfl
@[simp] theorem State.raise_lki : (s.raise f).lki = s.lki := rfl
@[simp] theorem State.raise_mdc : (s.raise f).mdc = s.mdc := rfl
@[simp] theorem State.raise_ftb : (s.raise f).ftb = s.ftb := rfl
@[simp] theorem State.raise_alerts : (s.raise f).alerts = s.alerts := rfl
@[simp] theorem State.raise_panels : (s.raise f).panels = s.panels := rfl
@[simp] theorem State.raise_atu : (s.raise f).atu = s.atu := rfl
@[simp] theorem State.raise_ptr : (s.raise f).ptr = s.ptr := rfl
@[simp] theorem State.raise_agu : (s.raise f).agu = s.agu := rfl
@[simp] theorem State.raise_cst : (s.raise f).cst = s.cst := rfl
@[simp] theorem State.raise_dou : (s.raise f).dou = s.dou := rfl
@[simp] theorem State.raise_stu_sticky : (s.raise f).stu.sticky = s.stu.sticky ||| f.mask := rfl
@[simp] theorem State.raise_stu_flagEnables : (s.raise f).stu.flagEnables = s.stu.flagEnables := rfl
@[simp] theorem State.raise_stu_alertEnable : (s.raise f).stu.alertEnable = s.stu.alertEnable := rfl
end raise

section setSlot
variable (s : State) (k : Nat) (r : Record)
@[simp] theorem State.setSlot_pending : (s.setSlot k r).pending = s.pending := rfl
@[simp] theorem State.setSlot_resetLow : (s.setSlot k r).resetLow = s.resetLow := rfl
@[simp] theorem State.setSlot_lki : (s.setSlot k r).lki = s.lki := rfl
@[simp] theorem State.setSlot_mdc : (s.setSlot k r).mdc = s.mdc := rfl
@[simp] theorem State.setSlot_ftb_slots : (s.setSlot k r).ftb.slots = Table.set Record.empty s.ftb.slots k r := rfl
@[simp] theorem State.setSlot_ftb_chains : (s.setSlot k r).ftb.chains = s.ftb.chains := rfl
@[simp] theorem State.setSlot_ftb_claims : (s.setSlot k r).ftb.claims = s.ftb.claims := rfl
@[simp] theorem State.setSlot_ftb_liveCount : (s.setSlot k r).ftb.liveCount = s.ftb.liveCount := rfl
@[simp] theorem State.setSlot_ftb_retiringCount : (s.setSlot k r).ftb.retiringCount = s.ftb.retiringCount := rfl
@[simp] theorem State.setSlot_ftb_freeCount : (s.setSlot k r).ftb.freeCount = s.ftb.freeCount := rfl
@[simp] theorem State.setSlot_alerts : (s.setSlot k r).alerts = s.alerts := rfl
@[simp] theorem State.setSlot_panels : (s.setSlot k r).panels = s.panels := rfl
@[simp] theorem State.setSlot_atu : (s.setSlot k r).atu = s.atu := rfl
@[simp] theorem State.setSlot_ptr : (s.setSlot k r).ptr = s.ptr := rfl
@[simp] theorem State.setSlot_agu : (s.setSlot k r).agu = s.agu := rfl
@[simp] theorem State.setSlot_cst : (s.setSlot k r).cst = s.cst := rfl
@[simp] theorem State.setSlot_dou : (s.setSlot k r).dou = s.dou := rfl
@[simp] theorem State.setSlot_stu : (s.setSlot k r).stu = s.stu := rfl
end setSlot

section updSlot
variable (s : State) (k : Nat) (f : Record → Record)
@[simp] theorem State.updSlot_pending : (s.updSlot k f).pending = s.pending := rfl
@[simp] theorem State.updSlot_resetLow : (s.updSlot k f).resetLow = s.resetLow := rfl
@[simp] theorem State.updSlot_lki : (s.updSlot k f).lki = s.lki := rfl
@[simp] theorem State.updSlot_mdc : (s.updSlot k f).mdc = s.mdc := rfl
@[simp] theorem State.updSlot_ftb_slots :
    (s.updSlot k f).ftb.slots = Table.set Record.empty s.ftb.slots k (f (s.slot k)) := rfl
@[simp] theorem State.updSlot_ftb_chains : (s.updSlot k f).ftb.chains = s.ftb.chains := rfl
@[simp] theorem State.updSlot_ftb_claims : (s.updSlot k f).ftb.claims = s.ftb.claims := rfl
@[simp] theorem State.updSlot_ftb_liveCount : (s.updSlot k f).ftb.liveCount = s.ftb.liveCount := rfl
@[simp] theorem State.updSlot_ftb_retiringCount : (s.updSlot k f).ftb.retiringCount = s.ftb.retiringCount := rfl
@[simp] theorem State.updSlot_ftb_freeCount : (s.updSlot k f).ftb.freeCount = s.ftb.freeCount := rfl
@[simp] theorem State.updSlot_alerts : (s.updSlot k f).alerts = s.alerts := rfl
@[simp] theorem State.updSlot_panels : (s.updSlot k f).panels = s.panels := rfl
@[simp] theorem State.updSlot_atu : (s.updSlot k f).atu = s.atu := rfl
@[simp] theorem State.updSlot_ptr : (s.updSlot k f).ptr = s.ptr := rfl
@[simp] theorem State.updSlot_agu : (s.updSlot k f).agu = s.agu := rfl
@[simp] theorem State.updSlot_cst : (s.updSlot k f).cst = s.cst := rfl
@[simp] theorem State.updSlot_dou : (s.updSlot k f).dou = s.dou := rfl
@[simp] theorem State.updSlot_stu : (s.updSlot k f).stu = s.stu := rfl
end updSlot

section setChain
variable (s : State) (b : Nat) (c : List Nat)
@[simp] theorem State.setChain_pending : (s.setChain b c).pending = s.pending := rfl
@[simp] theorem State.setChain_resetLow : (s.setChain b c).resetLow = s.resetLow := rfl
@[simp] theorem State.setChain_lki : (s.setChain b c).lki = s.lki := rfl
@[simp] theorem State.setChain_mdc : (s.setChain b c).mdc = s.mdc := rfl
@[simp] theorem State.setChain_ftb_slots : (s.setChain b c).ftb.slots = s.ftb.slots := rfl
@[simp] theorem State.setChain_ftb_chains : (s.setChain b c).ftb.chains = Table.set [] s.ftb.chains b c := rfl
@[simp] theorem State.setChain_ftb_claims : (s.setChain b c).ftb.claims = s.ftb.claims := rfl
@[simp] theorem State.setChain_ftb_liveCount : (s.setChain b c).ftb.liveCount = s.ftb.liveCount := rfl
@[simp] theorem State.setChain_ftb_retiringCount : (s.setChain b c).ftb.retiringCount = s.ftb.retiringCount := rfl
@[simp] theorem State.setChain_ftb_freeCount : (s.setChain b c).ftb.freeCount = s.ftb.freeCount := rfl
@[simp] theorem State.setChain_alerts : (s.setChain b c).alerts = s.alerts := rfl
@[simp] theorem State.setChain_panels : (s.setChain b c).panels = s.panels := rfl
@[simp] theorem State.setChain_atu : (s.setChain b c).atu = s.atu := rfl
@[simp] theorem State.setChain_ptr : (s.setChain b c).ptr = s.ptr := rfl
@[simp] theorem State.setChain_agu : (s.setChain b c).agu = s.agu := rfl
@[simp] theorem State.setChain_cst : (s.setChain b c).cst = s.cst := rfl
@[simp] theorem State.setChain_dou : (s.setChain b c).dou = s.dou := rfl
@[simp] theorem State.setChain_stu : (s.setChain b c).stu = s.stu := rfl
end setChain

section setClaim
variable (s : State) (c : Nat) (o : Option Nat)
@[simp] theorem State.setClaim_pending : (s.setClaim c o).pending = s.pending := rfl
@[simp] theorem State.setClaim_resetLow : (s.setClaim c o).resetLow = s.resetLow := rfl
@[simp] theorem State.setClaim_lki : (s.setClaim c o).lki = s.lki := rfl
@[simp] theorem State.setClaim_mdc : (s.setClaim c o).mdc = s.mdc := rfl
@[simp] theorem State.setClaim_ftb_slots : (s.setClaim c o).ftb.slots = s.ftb.slots := rfl
@[simp] theorem State.setClaim_ftb_chains : (s.setClaim c o).ftb.chains = s.ftb.chains := rfl
@[simp] theorem State.setClaim_ftb_claims : (s.setClaim c o).ftb.claims = Table.set none s.ftb.claims c o := rfl
@[simp] theorem State.setClaim_ftb_liveCount : (s.setClaim c o).ftb.liveCount = s.ftb.liveCount := rfl
@[simp] theorem State.setClaim_ftb_retiringCount : (s.setClaim c o).ftb.retiringCount = s.ftb.retiringCount := rfl
@[simp] theorem State.setClaim_ftb_freeCount : (s.setClaim c o).ftb.freeCount = s.ftb.freeCount := rfl
@[simp] theorem State.setClaim_alerts : (s.setClaim c o).alerts = s.alerts := rfl
@[simp] theorem State.setClaim_panels : (s.setClaim c o).panels = s.panels := rfl
@[simp] theorem State.setClaim_atu : (s.setClaim c o).atu = s.atu := rfl
@[simp] theorem State.setClaim_ptr : (s.setClaim c o).ptr = s.ptr := rfl
@[simp] theorem State.setClaim_agu : (s.setClaim c o).agu = s.agu := rfl
@[simp] theorem State.setClaim_cst : (s.setClaim c o).cst = s.cst := rfl
@[simp] theorem State.setClaim_dou : (s.setClaim c o).dou = s.dou := rfl
@[simp] theorem State.setClaim_stu : (s.setClaim c o).stu = s.stu := rfl
end setClaim

section writeCell
variable (s : State) (w : CellWrite)
@[simp] theorem State.writeCell_pending : (s.writeCell w).pending = s.pending := rfl
@[simp] theorem State.writeCell_resetLow : (s.writeCell w).resetLow = s.resetLow := rfl
@[simp] theorem State.writeCell_lki : (s.writeCell w).lki = s.lki := rfl
@[simp] theorem State.writeCell_mdc : (s.writeCell w).mdc = s.mdc := rfl
@[simp] theorem State.writeCell_ftb : (s.writeCell w).ftb = s.ftb := rfl
@[simp] theorem State.writeCell_alerts : (s.writeCell w).alerts = s.alerts := rfl
@[simp] theorem State.writeCell_panels : (s.writeCell w).panels = s.panels := rfl
@[simp] theorem State.writeCell_atu : (s.writeCell w).atu = s.atu := rfl
@[simp] theorem State.writeCell_ptr : (s.writeCell w).ptr = s.ptr := rfl
@[simp] theorem State.writeCell_agu : (s.writeCell w).agu = s.agu := rfl
@[simp] theorem State.writeCell_cst_cells :
    (s.writeCell w).cst.cells = Table.set Cell.blank s.cst.cells w.cell { char := w.char, attr := w.attr } := rfl
@[simp] theorem State.writeCell_cst_mark : (s.writeCell w).cst.mark = s.cst.mark := rfl
@[simp] theorem State.writeCell_dou : (s.writeCell w).dou = s.dou := rfl
@[simp] theorem State.writeCell_stu : (s.writeCell w).stu = s.stu := rfl
end writeCell

section setPanel
variable (s : State) (p : Nat) (e : Option Panel)
@[simp] theorem State.setPanel_pending : (s.setPanel p e).pending = s.pending := rfl
@[simp] theorem State.setPanel_resetLow : (s.setPanel p e).resetLow = s.resetLow := rfl
@[simp] theorem State.setPanel_lki : (s.setPanel p e).lki = s.lki := rfl
@[simp] theorem State.setPanel_mdc : (s.setPanel p e).mdc = s.mdc := rfl
@[simp] theorem State.setPanel_ftb : (s.setPanel p e).ftb = s.ftb := rfl
@[simp] theorem State.setPanel_alerts : (s.setPanel p e).alerts = s.alerts := rfl
@[simp] theorem State.setPanel_panels : (s.setPanel p e).panels = Table.set none s.panels p e := rfl
@[simp] theorem State.setPanel_atu : (s.setPanel p e).atu = s.atu := rfl
@[simp] theorem State.setPanel_ptr : (s.setPanel p e).ptr = s.ptr := rfl
@[simp] theorem State.setPanel_agu : (s.setPanel p e).agu = s.agu := rfl
@[simp] theorem State.setPanel_cst : (s.setPanel p e).cst = s.cst := rfl
@[simp] theorem State.setPanel_dou : (s.setPanel p e).dou = s.dou := rfl
@[simp] theorem State.setPanel_stu : (s.setPanel p e).stu = s.stu := rfl
end setPanel

section setMark
variable (s : State) (q : Requester)
@[simp] theorem State.setMark_pending : (s.setMark q).pending = s.pending := rfl
@[simp] theorem State.setMark_resetLow : (s.setMark q).resetLow = s.resetLow := rfl
@[simp] theorem State.setMark_lki : (s.setMark q).lki = s.lki := rfl
@[simp] theorem State.setMark_mdc : (s.setMark q).mdc = s.mdc := rfl
@[simp] theorem State.setMark_ftb : (s.setMark q).ftb = s.ftb := rfl
@[simp] theorem State.setMark_alerts : (s.setMark q).alerts = s.alerts := rfl
@[simp] theorem State.setMark_panels : (s.setMark q).panels = s.panels := rfl
@[simp] theorem State.setMark_atu : (s.setMark q).atu = s.atu := rfl
@[simp] theorem State.setMark_ptr : (s.setMark q).ptr = s.ptr := rfl
@[simp] theorem State.setMark_agu : (s.setMark q).agu = s.agu := rfl
@[simp] theorem State.setMark_cst_cells : (s.setMark q).cst.cells = s.cst.cells := rfl
@[simp] theorem State.setMark_cst_mark : (s.setMark q).cst.mark = q := rfl
@[simp] theorem State.setMark_dou : (s.setMark q).dou = s.dou := rfl
@[simp] theorem State.setMark_stu : (s.setMark q).stu = s.stu := rfl
end setMark

section enqueue
variable (s : State) (k : Nat)
@[simp] theorem State.enqueue_pending : (s.enqueue k).pending = s.pending := rfl
@[simp] theorem State.enqueue_resetLow : (s.enqueue k).resetLow = s.resetLow := rfl
@[simp] theorem State.enqueue_lki : (s.enqueue k).lki = s.lki := rfl
@[simp] theorem State.enqueue_mdc : (s.enqueue k).mdc = s.mdc := rfl
@[simp] theorem State.enqueue_ftb_slots :
    (s.enqueue k).ftb.slots = (s.updSlot k (fun r => { r with queued := true })).ftb.slots := rfl
@[simp] theorem State.enqueue_ftb_chains : (s.enqueue k).ftb.chains = s.ftb.chains := rfl
@[simp] theorem State.enqueue_ftb_claims : (s.enqueue k).ftb.claims = s.ftb.claims := rfl
@[simp] theorem State.enqueue_ftb_liveCount : (s.enqueue k).ftb.liveCount = s.ftb.liveCount := rfl
@[simp] theorem State.enqueue_ftb_retiringCount : (s.enqueue k).ftb.retiringCount = s.ftb.retiringCount := rfl
@[simp] theorem State.enqueue_ftb_freeCount : (s.enqueue k).ftb.freeCount = s.ftb.freeCount := rfl
@[simp] theorem State.enqueue_alerts : (s.enqueue k).alerts = s.alerts := rfl
@[simp] theorem State.enqueue_panels : (s.enqueue k).panels = s.panels := rfl
@[simp] theorem State.enqueue_atu : (s.enqueue k).atu = s.atu := rfl
@[simp] theorem State.enqueue_ptr_queue : (s.enqueue k).ptr.queue = s.ptr.queue ++ [k] := rfl
@[simp] theorem State.enqueue_ptr_painter : (s.enqueue k).ptr.painter = s.ptr.painter := rfl
@[simp] theorem State.enqueue_agu : (s.enqueue k).agu = s.agu := rfl
@[simp] theorem State.enqueue_cst : (s.enqueue k).cst = s.cst := rfl
@[simp] theorem State.enqueue_dou : (s.enqueue k).dou = s.dou := rfl
@[simp] theorem State.enqueue_stu : (s.enqueue k).stu = s.stu := rfl
end enqueue

section takeHeld
variable (s : State) (reply : Bool)
@[simp] theorem State.takeHeld_pending : (s.takeHeld reply).pending = s.pending := rfl
@[simp] theorem State.takeHeld_resetLow : (s.takeHeld reply).resetLow = s.resetLow := rfl
@[simp] theorem State.takeHeld_lki_rx : (s.takeHeld reply).lki.rx = s.lki.rx := rfl
@[simp] theorem State.takeHeld_lki_selection : (s.takeHeld reply).lki.selection = s.lki.selection := rfl
@[simp] theorem State.takeHeld_lki_inbound : (s.takeHeld reply).lki.inbound = s.lki.inbound := rfl
@[simp] theorem State.takeHeld_lki_gapPending : (s.takeHeld reply).lki.gapPending = s.lki.gapPending := rfl
@[simp] theorem State.takeHeld_lki_assembler : (s.takeHeld reply).lki.assembler = s.lki.assembler := rfl
@[simp] theorem State.takeHeld_lki_held : (s.takeHeld reply).lki.held = none := rfl
@[simp] theorem State.takeHeld_lki_replyOwed : (s.takeHeld reply).lki.replyOwed = reply := rfl
@[simp] theorem State.takeHeld_lki_replies : (s.takeHeld reply).lki.replies = s.lki.replies := rfl
@[simp] theorem State.takeHeld_lki_tx : (s.takeHeld reply).lki.tx = s.lki.tx := rfl
@[simp] theorem State.takeHeld_lki_replyHigh : (s.takeHeld reply).lki.replyHigh = s.lki.replyHigh := rfl
@[simp] theorem State.takeHeld_lki_replyGap : (s.takeHeld reply).lki.replyGap = s.lki.replyGap := rfl
@[simp] theorem State.takeHeld_lki_unitAddress : (s.takeHeld reply).lki.unitAddress = s.lki.unitAddress := rfl
@[simp] theorem State.takeHeld_mdc : (s.takeHeld reply).mdc = s.mdc := rfl
@[simp] theorem State.takeHeld_ftb : (s.takeHeld reply).ftb = s.ftb := rfl
@[simp] theorem State.takeHeld_alerts : (s.takeHeld reply).alerts = s.alerts := rfl
@[simp] theorem State.takeHeld_panels : (s.takeHeld reply).panels = s.panels := rfl
@[simp] theorem State.takeHeld_atu : (s.takeHeld reply).atu = s.atu := rfl
@[simp] theorem State.takeHeld_ptr : (s.takeHeld reply).ptr = s.ptr := rfl
@[simp] theorem State.takeHeld_agu : (s.takeHeld reply).agu = s.agu := rfl
@[simp] theorem State.takeHeld_cst : (s.takeHeld reply).cst = s.cst := rfl
@[simp] theorem State.takeHeld_dou : (s.takeHeld reply).dou = s.dou := rfl
@[simp] theorem State.takeHeld_stu : (s.takeHeld reply).stu = s.stu := rfl
end takeHeld

section endExecution
variable (s : State) (code : Byte) (r : Result) (data : List Byte)
@[simp] theorem State.endExecution_pending : (s.endExecution code r data).pending = s.pending := rfl
@[simp] theorem State.endExecution_resetLow : (s.endExecution code r data).resetLow = s.resetLow := rfl
@[simp] theorem State.endExecution_lki_rx : (s.endExecution code r data).lki.rx = s.lki.rx := rfl
@[simp] theorem State.endExecution_lki_selection : (s.endExecution code r data).lki.selection = s.lki.selection := rfl
@[simp] theorem State.endExecution_lki_inbound : (s.endExecution code r data).lki.inbound = s.lki.inbound := rfl
@[simp] theorem State.endExecution_lki_gapPending : (s.endExecution code r data).lki.gapPending = s.lki.gapPending := rfl
@[simp] theorem State.endExecution_lki_assembler : (s.endExecution code r data).lki.assembler = s.lki.assembler := rfl
@[simp] theorem State.endExecution_lki_held : (s.endExecution code r data).lki.held = s.lki.held := rfl
@[simp] theorem State.endExecution_lki_replyOwed : (s.endExecution code r data).lki.replyOwed = false := rfl
@[simp] theorem State.endExecution_lki_replies :
    (s.endExecution code r data).lki.replies = if s.lki.replyOwed then s.lki.replies ++ [replyOf code r data] else s.lki.replies := rfl
@[simp] theorem State.endExecution_lki_tx : (s.endExecution code r data).lki.tx = s.lki.tx := rfl
@[simp] theorem State.endExecution_lki_replyHigh : (s.endExecution code r data).lki.replyHigh = s.lki.replyHigh := rfl
@[simp] theorem State.endExecution_lki_replyGap : (s.endExecution code r data).lki.replyGap = s.lki.replyGap := rfl
@[simp] theorem State.endExecution_lki_unitAddress : (s.endExecution code r data).lki.unitAddress = s.lki.unitAddress := rfl
@[simp] theorem State.endExecution_mdc : (s.endExecution code r data).mdc = .idle := rfl
@[simp] theorem State.endExecution_ftb : (s.endExecution code r data).ftb = s.ftb := rfl
@[simp] theorem State.endExecution_alerts : (s.endExecution code r data).alerts = s.alerts := rfl
@[simp] theorem State.endExecution_panels : (s.endExecution code r data).panels = s.panels := rfl
@[simp] theorem State.endExecution_atu : (s.endExecution code r data).atu = s.atu := rfl
@[simp] theorem State.endExecution_ptr : (s.endExecution code r data).ptr = s.ptr := rfl
@[simp] theorem State.endExecution_agu : (s.endExecution code r data).agu = s.agu := rfl
@[simp] theorem State.endExecution_cst : (s.endExecution code r data).cst = s.cst := rfl
@[simp] theorem State.endExecution_dou : (s.endExecution code r data).dou = s.dou := rfl
@[simp] theorem State.endExecution_stu : (s.endExecution code r data).stu = s.stu := rfl
end endExecution

section setRx
variable (s : State) (x : RxState)
@[simp] theorem State.setRx_pending : (s.setRx x).pending = s.pending := rfl
@[simp] theorem State.setRx_resetLow : (s.setRx x).resetLow = s.resetLow := rfl
@[simp] theorem State.setRx_lki_rx : (s.setRx x).lki.rx = x := rfl
@[simp] theorem State.setRx_lki_selection : (s.setRx x).lki.selection = s.lki.selection := rfl
@[simp] theorem State.setRx_lki_inbound : (s.setRx x).lki.inbound = s.lki.inbound := rfl
@[simp] theorem State.setRx_lki_gapPending : (s.setRx x).lki.gapPending = s.lki.gapPending := rfl
@[simp] theorem State.setRx_lki_assembler : (s.setRx x).lki.assembler = s.lki.assembler := rfl
@[simp] theorem State.setRx_lki_held : (s.setRx x).lki.held = s.lki.held := rfl
@[simp] theorem State.setRx_lki_replyOwed : (s.setRx x).lki.replyOwed = s.lki.replyOwed := rfl
@[simp] theorem State.setRx_lki_replies : (s.setRx x).lki.replies = s.lki.replies := rfl
@[simp] theorem State.setRx_lki_tx : (s.setRx x).lki.tx = s.lki.tx := rfl
@[simp] theorem State.setRx_lki_replyHigh : (s.setRx x).lki.replyHigh = s.lki.replyHigh := rfl
@[simp] theorem State.setRx_lki_replyGap : (s.setRx x).lki.replyGap = s.lki.replyGap := rfl
@[simp] theorem State.setRx_lki_unitAddress : (s.setRx x).lki.unitAddress = s.lki.unitAddress := rfl
@[simp] theorem State.setRx_mdc : (s.setRx x).mdc = s.mdc := rfl
@[simp] theorem State.setRx_ftb : (s.setRx x).ftb = s.ftb := rfl
@[simp] theorem State.setRx_alerts : (s.setRx x).alerts = s.alerts := rfl
@[simp] theorem State.setRx_panels : (s.setRx x).panels = s.panels := rfl
@[simp] theorem State.setRx_atu : (s.setRx x).atu = s.atu := rfl
@[simp] theorem State.setRx_ptr : (s.setRx x).ptr = s.ptr := rfl
@[simp] theorem State.setRx_agu : (s.setRx x).agu = s.agu := rfl
@[simp] theorem State.setRx_cst : (s.setRx x).cst = s.cst := rfl
@[simp] theorem State.setRx_dou : (s.setRx x).dou = s.dou := rfl
@[simp] theorem State.setRx_stu : (s.setRx x).stu = s.stu := rfl
end setRx

section setAssembler
variable (s : State) (a : Assembler)
@[simp] theorem State.setAssembler_pending : (s.setAssembler a).pending = s.pending := rfl
@[simp] theorem State.setAssembler_resetLow : (s.setAssembler a).resetLow = s.resetLow := rfl
@[simp] theorem State.setAssembler_lki_rx : (s.setAssembler a).lki.rx = s.lki.rx := rfl
@[simp] theorem State.setAssembler_lki_selection : (s.setAssembler a).lki.selection = s.lki.selection := rfl
@[simp] theorem State.setAssembler_lki_inbound : (s.setAssembler a).lki.inbound = s.lki.inbound := rfl
@[simp] theorem State.setAssembler_lki_gapPending : (s.setAssembler a).lki.gapPending = s.lki.gapPending := rfl
@[simp] theorem State.setAssembler_lki_assembler : (s.setAssembler a).lki.assembler = a := rfl
@[simp] theorem State.setAssembler_lki_held : (s.setAssembler a).lki.held = s.lki.held := rfl
@[simp] theorem State.setAssembler_lki_replyOwed : (s.setAssembler a).lki.replyOwed = s.lki.replyOwed := rfl
@[simp] theorem State.setAssembler_lki_replies : (s.setAssembler a).lki.replies = s.lki.replies := rfl
@[simp] theorem State.setAssembler_lki_tx : (s.setAssembler a).lki.tx = s.lki.tx := rfl
@[simp] theorem State.setAssembler_lki_replyHigh : (s.setAssembler a).lki.replyHigh = s.lki.replyHigh := rfl
@[simp] theorem State.setAssembler_lki_replyGap : (s.setAssembler a).lki.replyGap = s.lki.replyGap := rfl
@[simp] theorem State.setAssembler_lki_unitAddress : (s.setAssembler a).lki.unitAddress = s.lki.unitAddress := rfl
@[simp] theorem State.setAssembler_mdc : (s.setAssembler a).mdc = s.mdc := rfl
@[simp] theorem State.setAssembler_ftb : (s.setAssembler a).ftb = s.ftb := rfl
@[simp] theorem State.setAssembler_alerts : (s.setAssembler a).alerts = s.alerts := rfl
@[simp] theorem State.setAssembler_panels : (s.setAssembler a).panels = s.panels := rfl
@[simp] theorem State.setAssembler_atu : (s.setAssembler a).atu = s.atu := rfl
@[simp] theorem State.setAssembler_ptr : (s.setAssembler a).ptr = s.ptr := rfl
@[simp] theorem State.setAssembler_agu : (s.setAssembler a).agu = s.agu := rfl
@[simp] theorem State.setAssembler_cst : (s.setAssembler a).cst = s.cst := rfl
@[simp] theorem State.setAssembler_dou : (s.setAssembler a).dou = s.dou := rfl
@[simp] theorem State.setAssembler_stu : (s.setAssembler a).stu = s.stu := rfl
end setAssembler

section swapBanks
variable (s : State)
@[simp] theorem State.swapBanks_pending : (s.swapBanks).pending = s.pending := rfl
@[simp] theorem State.swapBanks_resetLow : (s.swapBanks).resetLow = s.resetLow := rfl
@[simp] theorem State.swapBanks_lki : (s.swapBanks).lki = s.lki := rfl
@[simp] theorem State.swapBanks_mdc : (s.swapBanks).mdc = s.mdc := rfl
@[simp] theorem State.swapBanks_ftb : (s.swapBanks).ftb = s.ftb := rfl
@[simp] theorem State.swapBanks_alerts : (s.swapBanks).alerts = s.alerts := rfl
@[simp] theorem State.swapBanks_panels : (s.swapBanks).panels = s.panels := rfl
@[simp] theorem State.swapBanks_atu_attrs : (s.swapBanks).atu.attrs = s.atu.attrs := rfl
@[simp] theorem State.swapBanks_atu_bankA : (s.swapBanks).atu.bankA = s.atu.bankB := rfl
@[simp] theorem State.swapBanks_atu_bankB : (s.swapBanks).atu.bankB = s.atu.bankA := rfl
@[simp] theorem State.swapBanks_ptr : (s.swapBanks).ptr = s.ptr := rfl
@[simp] theorem State.swapBanks_agu : (s.swapBanks).agu = s.agu := rfl
@[simp] theorem State.swapBanks_cst : (s.swapBanks).cst = s.cst := rfl
@[simp] theorem State.swapBanks_dou : (s.swapBanks).dou = s.dou := rfl
@[simp] theorem State.swapBanks_stu : (s.swapBanks).stu = s.stu := rfl
end swapBanks

section markStale
variable (s : State) (k : Nat)
@[simp] theorem State.markStale_pending : (s.markStale k).pending = s.pending := rfl
@[simp] theorem State.markStale_resetLow : (s.markStale k).resetLow = s.resetLow := rfl
@[simp] theorem State.markStale_lki : (s.markStale k).lki = s.lki := rfl
@[simp] theorem State.markStale_mdc : (s.markStale k).mdc = s.mdc := rfl
@[simp] theorem State.markStale_ftb_slots :
    (s.markStale k).ftb.slots = (s.updSlot k (fun r => { r with stale := true })).ftb.slots := rfl
@[simp] theorem State.markStale_ftb_chains : (s.markStale k).ftb.chains = s.ftb.chains := rfl
@[simp] theorem State.markStale_ftb_claims : (s.markStale k).ftb.claims = s.ftb.claims := rfl
@[simp] theorem State.markStale_ftb_liveCount : (s.markStale k).ftb.liveCount = s.ftb.liveCount := rfl
@[simp] theorem State.markStale_ftb_retiringCount : (s.markStale k).ftb.retiringCount = s.ftb.retiringCount := rfl
@[simp] theorem State.markStale_ftb_freeCount : (s.markStale k).ftb.freeCount = s.ftb.freeCount := rfl
@[simp] theorem State.markStale_alerts : (s.markStale k).alerts = s.alerts := rfl
@[simp] theorem State.markStale_panels : (s.markStale k).panels = s.panels := rfl
@[simp] theorem State.markStale_atu : (s.markStale k).atu = s.atu := rfl
@[simp] theorem State.markStale_ptr : (s.markStale k).ptr = s.ptr := rfl
@[simp] theorem State.markStale_agu : (s.markStale k).agu = s.agu := rfl
@[simp] theorem State.markStale_cst : (s.markStale k).cst = s.cst := rfl
@[simp] theorem State.markStale_dou : (s.markStale k).dou = s.dou := rfl
@[simp] theorem State.markStale_stu : (s.markStale k).stu = s.stu := rfl
end markStale

section defer
variable (s : State) (k : Nat)
@[simp] theorem State.defer_pending : (s.defer k).pending = s.pending := rfl
@[simp] theorem State.defer_resetLow : (s.defer k).resetLow = s.resetLow := rfl
@[simp] theorem State.defer_lki : (s.defer k).lki = s.lki := rfl
@[simp] theorem State.defer_mdc : (s.defer k).mdc = s.mdc := rfl
@[simp] theorem State.defer_ftb_slots :
    (s.defer k).ftb.slots = (s.updSlot k (fun r => { r with queued := false, due := true })).ftb.slots := rfl
@[simp] theorem State.defer_ftb_chains : (s.defer k).ftb.chains = s.ftb.chains := rfl
@[simp] theorem State.defer_ftb_claims : (s.defer k).ftb.claims = s.ftb.claims := rfl
@[simp] theorem State.defer_ftb_liveCount : (s.defer k).ftb.liveCount = s.ftb.liveCount := rfl
@[simp] theorem State.defer_ftb_retiringCount : (s.defer k).ftb.retiringCount = s.ftb.retiringCount := rfl
@[simp] theorem State.defer_ftb_freeCount : (s.defer k).ftb.freeCount = s.ftb.freeCount := rfl
@[simp] theorem State.defer_alerts : (s.defer k).alerts = s.alerts := rfl
@[simp] theorem State.defer_panels : (s.defer k).panels = s.panels := rfl
@[simp] theorem State.defer_atu : (s.defer k).atu = s.atu := rfl
@[simp] theorem State.defer_ptr_queue : (s.defer k).ptr.queue = s.ptr.queue.filter (· != k) := rfl
@[simp] theorem State.defer_ptr_painter : (s.defer k).ptr.painter = s.ptr.painter := rfl
@[simp] theorem State.defer_agu : (s.defer k).agu = s.agu := rfl
@[simp] theorem State.defer_cst : (s.defer k).cst = s.cst := rfl
@[simp] theorem State.defer_dou : (s.defer k).dou = s.dou := rfl
@[simp] theorem State.defer_stu : (s.defer k).stu = s.stu := rfl
end defer

section resume
variable (s : State) (k : Nat)
@[simp] theorem State.resume_pending : (s.resume k).pending = s.pending := rfl
@[simp] theorem State.resume_resetLow : (s.resume k).resetLow = s.resetLow := rfl
@[simp] theorem State.resume_lki : (s.resume k).lki = s.lki := rfl
@[simp] theorem State.resume_mdc : (s.resume k).mdc = s.mdc := rfl
@[simp] theorem State.resume_ftb_slots :
    (s.resume k).ftb.slots = ((s.updSlot k (fun r => { r with due := false })).updSlot k (fun r => { r with queued := true })).ftb.slots := rfl
@[simp] theorem State.resume_ftb_chains : (s.resume k).ftb.chains = s.ftb.chains := rfl
@[simp] theorem State.resume_ftb_claims : (s.resume k).ftb.claims = s.ftb.claims := rfl
@[simp] theorem State.resume_ftb_liveCount : (s.resume k).ftb.liveCount = s.ftb.liveCount := rfl
@[simp] theorem State.resume_ftb_retiringCount : (s.resume k).ftb.retiringCount = s.ftb.retiringCount := rfl
@[simp] theorem State.resume_ftb_freeCount : (s.resume k).ftb.freeCount = s.ftb.freeCount := rfl
@[simp] theorem State.resume_alerts : (s.resume k).alerts = s.alerts := rfl
@[simp] theorem State.resume_panels : (s.resume k).panels = s.panels := rfl
@[simp] theorem State.resume_atu : (s.resume k).atu = s.atu := rfl
@[simp] theorem State.resume_ptr_queue : (s.resume k).ptr.queue = s.ptr.queue ++ [k] := rfl
@[simp] theorem State.resume_ptr_painter : (s.resume k).ptr.painter = s.ptr.painter := rfl
@[simp] theorem State.resume_agu : (s.resume k).agu = s.agu := rfl
@[simp] theorem State.resume_cst : (s.resume k).cst = s.cst := rfl
@[simp] theorem State.resume_dou : (s.resume k).dou = s.dou := rfl
@[simp] theorem State.resume_stu : (s.resume k).stu = s.stu := rfl
end resume

end Sys2Proof.Machine
end

