-- ==== Sys2Proof/Laws/Table.lean ====
section
/-!
SUPPORT. The laws of tables: reading after a write, and that a write keeps the canonical form.
-/

namespace Sys2Proof.Machine

variable {α : Type}

@[simp] theorem Table.get_nil (d : α) (k : Nat) : Table.get d [] k = d := rfl

theorem Table.get_insert (d : α) (t : Table α) (k : Nat) (v : α) (j : Nat) :
    Table.get d (Table.insert t k v) j = if j = k then v else Table.get d t j := by
  induction t with
  | nil => simp [Table.insert, Table.get, eq_comm (a := k) (b := j)]
  | cons e t ih =>
    obtain ⟨i, w⟩ := e
    simp only [Table.insert]
    by_cases hkj : j = k
    · subst hkj
      split
      · simp [Table.get]
      · split
        · simp [Table.get]
        · next h _ => simp [Table.get, ih, show ¬ i = j by omega]
    · split
      · simp [Table.get, Ne.symm hkj]
      · split
        · next h => subst h; simp [Table.get, Ne.symm hkj]
        · simp [Table.get, ih, hkj]

theorem Table.get_erase (d : α) (t : Table α) (k j : Nat) :
    Table.get d (Table.erase t k) j = if j = k then d else Table.get d t j := by
  induction t with
  | nil => simp [Table.erase, Table.get]
  | cons e t ih =>
    obtain ⟨i, w⟩ := e
    simp only [Table.erase] at ih
    by_cases h : i = k
    · subst h
      simp only [Table.erase, List.filter_cons, bne_self_eq_false, Bool.false_eq_true, if_false, ih, Table.get]
      by_cases h' : i = j
      · simp [h']
      · simp [h', Ne.symm h']
    · simp only [Table.erase, List.filter_cons, bne_iff_ne, ne_eq, h, not_false_eq_true, if_true, Table.get, ih]
      by_cases h' : i = j
      · subst h'; simp [h]
      · simp [h']

variable [DecidableEq α]

/-- Reading after a write: the written index reads the value written, every other index what it read before. -/
theorem Table.get_set (d : α) (t : Table α) (k : Nat) (v : α) (j : Nat) :
    Table.get d (Table.set d t k v) j = if j = k then v else Table.get d t j := by
  unfold Table.set
  split
  · next h => rw [Table.get_erase, h]
  · rw [Table.get_insert]

@[simp] theorem Table.get_set_same (d : α) (t : Table α) (k : Nat) (v : α) :
    Table.get d (Table.set d t k v) k = v := by simp [Table.get_set]

theorem Table.get_set_other (d : α) (t : Table α) {k j : Nat} (v : α) (h : j ≠ k) :
    Table.get d (Table.set d t k v) j = Table.get d t j := by simp [Table.get_set, h]

omit [DecidableEq α] in
theorem Table.above_iff (b : Nat) (t : Table α) : Table.above b t = true ↔ ∀ e ∈ t, b < e.1 := by
  simp [Table.above]

theorem Table.wf_cons (d : α) (k : Nat) (v : α) (t : Table α) :
    Table.wf d ((k, v) :: t) = true ↔ v ≠ d ∧ (∀ e ∈ t, k < e.1) ∧ Table.wf d t = true := by
  simp [Table.wf, Table.above, and_assoc]

omit [DecidableEq α] in
theorem Table.mem_insert {t : Table α} {k : Nat} {v : α} {e : Nat × α} (h : e ∈ Table.insert t k v) :
    e = (k, v) ∨ e ∈ t := by
  induction t with
  | nil => simpa [Table.insert] using h
  | cons x t ih =>
    obtain ⟨i, w⟩ := x
    simp only [Table.insert] at h
    split at h
    · simpa using h
    · split at h
      · rcases List.mem_cons.1 h with h | h
        · exact .inl h
        · exact .inr (List.mem_cons_of_mem _ h)
      · rcases List.mem_cons.1 h with h | h
        · exact .inr (h ▸ List.mem_cons_self ..)
        · rcases ih h with h | h
          · exact .inl h
          · exact .inr (List.mem_cons_of_mem _ h)

theorem Table.insert_wf {d : α} {t : Table α} {k : Nat} {v : α} (hv : v ≠ d) (ht : Table.wf d t = true) :
    Table.wf d (Table.insert t k v) = true := by
  induction t with
  | nil => simp [Table.insert, Table.wf, Table.above, hv]
  | cons x t ih =>
    obtain ⟨i, w⟩ := x
    obtain ⟨hw, hi, ht'⟩ := (Table.wf_cons d i w t).1 ht
    simp only [Table.insert]
    split
    · next h =>
      refine (Table.wf_cons ..).2 ⟨hv, fun e he => ?_, ht⟩
      rcases List.mem_cons.1 he with rfl | he
      · exact h
      · exact h.trans (hi e he)
    · split
      · next h => subst h; exact (Table.wf_cons ..).2 ⟨hv, hi, ht'⟩
      · refine (Table.wf_cons ..).2 ⟨hw, fun e he => ?_, ih ht'⟩
        rcases Table.mem_insert he with rfl | he
        · show i < k; omega
        · exact hi e he

theorem Table.erase_wf {d : α} {t : Table α} {k : Nat} (ht : Table.wf d t = true) :
    Table.wf d (Table.erase t k) = true := by
  induction t with
  | nil => rfl
  | cons x t ih =>
    obtain ⟨i, w⟩ := x
    obtain ⟨hw, hi, ht'⟩ := (Table.wf_cons d i w t).1 ht
    have ih := ih ht'
    simp only [Table.erase] at ih ⊢
    rw [List.filter_cons]
    split
    · refine (Table.wf_cons ..).2 ⟨hw, fun e he => hi e (List.mem_of_mem_filter he), ih⟩
    · exact ih

/-- A write keeps the canonical form. -/
theorem Table.set_wf {d : α} {t : Table α} {k : Nat} {v : α} (ht : Table.wf d t = true) :
    Table.wf d (Table.set d t k v) = true := by
  unfold Table.set
  split
  · exact Table.erase_wf ht
  · next h => exact Table.insert_wf h ht

omit [DecidableEq α] in
theorem Table.get_of_above {d : α} {t : Table α} {k : Nat} (h : ∀ e ∈ t, k < e.1) : Table.get d t k = d := by
  induction t with
  | nil => rfl
  | cons x t ih =>
    obtain ⟨i, w⟩ := x
    have hi : k < i := h (i, w) (List.mem_cons_self ..)
    simp only [Table.get, if_neg (Nat.ne_of_gt hi)]
    exact ih fun e he => h e (List.mem_cons_of_mem _ he)

/-- Canonical tables that read the same everywhere are the same data. -/
theorem Table.ext_of_wf {d : α} {t u : Table α} (ht : Table.wf d t = true) (hu : Table.wf d u = true)
    (h : ∀ k, Table.get d t k = Table.get d u k) : t = u := by
  induction t generalizing u with
  | nil =>
    cases u with
    | nil => rfl
    | cons x u =>
      obtain ⟨i, w⟩ := x
      have := h i
      simp only [Table.get, if_true] at this
      exact absurd this.symm ((Table.wf_cons ..).1 hu).1
  | cons x t ih =>
    obtain ⟨i, w⟩ := x
    obtain ⟨hw, hi, ht'⟩ := (Table.wf_cons ..).1 ht
    cases u with
    | nil =>
      have := h i
      simp only [Table.get, if_true] at this
      exact absurd this hw
    | cons y u =>
      obtain ⟨j, z⟩ := y
      obtain ⟨hz, hj, hu'⟩ := (Table.wf_cons ..).1 hu
      have hij : i = j := by
        rcases Nat.lt_trichotomy i j with hlt | heq | hgt
        · have := h i
          rw [Table.get_of_above (t := (j, z) :: u)] at this
          · simp only [Table.get, if_true] at this; exact absurd this hw
          · intro e he
            rcases List.mem_cons.1 he with rfl | he
            · exact hlt
            · exact hlt.trans (hj e he)
        · exact heq
        · have := h j
          rw [Table.get_of_above (t := (i, w) :: t)] at this
          · simp only [Table.get, if_true] at this; exact absurd this.symm hz
          · intro e he
            rcases List.mem_cons.1 he with rfl | he
            · exact hgt
            · exact hgt.trans (hi e he)
      subst hij
      have hwz : w = z := by simpa [Table.get] using h i
      subst hwz
      congr 1
      refine ih ht' hu' fun k => ?_
      by_cases hk : i = k
      · subst hk; rw [Table.get_of_above hi, Table.get_of_above hj]
      · simpa [Table.get, hk] using h k

end Sys2Proof.Machine
end

