-- ==== Sys2Proof/Laws/Ops.lean ====
section
/-!
SUPPORT. One lemma for each shared operation that says once what it does: what it leaves to be read, and that it changes nothing
else.
-/

namespace Sys2Proof.Machine

/-! ## Reading after a write -/

@[simp] theorem State.slot_setSlot (s : State) (k : Nat) (r : Record) (j : Nat) :
    (s.setSlot k r).slot j = if j = k then r else s.slot j := Table.get_set ..

@[simp] theorem State.slot_updSlot (s : State) (k : Nat) (f : Record → Record) (j : Nat) :
    (s.updSlot k f).slot j = if j = k then f (s.slot k) else s.slot j := Table.get_set ..

@[simp] theorem State.chain_setChain (s : State) (b : Nat) (c : List Nat) (i : Nat) :
    (s.setChain b c).chain i = if i = b then c else s.chain i := Table.get_set ..

@[simp] theorem State.claim_setClaim (s : State) (c : Nat) (o : Option Nat) (i : Nat) :
    (s.setClaim c o).claim i = if i = c then o else s.claim i := Table.get_set ..

@[simp] theorem State.cell_writeCell (s : State) (w : CellWrite) (c : Nat) :
    (s.writeCell w).cell c = if c = w.cell then { char := w.char, attr := w.attr } else s.cell c := Table.get_set ..

@[simp] theorem State.panel_setPanel (s : State) (p : Nat) (e : Option Panel) (q : Nat) :
    (s.setPanel p e).panel q = if q = p then e else s.panel q := Table.get_set ..

theorem State.scheme_setScheme (s : State) (bank : Bank) (condition index : Nat) (other : Bank) (c : Nat) :
    (s.setScheme bank condition index).scheme other c
      = if other = bank ∧ c = condition then index else s.scheme other c := by
  cases bank <;> cases other <;> simp [State.setScheme, State.scheme, Table.get_set]

/-! A view of the state depends on its own table alone. -/

theorem State.slot_of_slots {s t : State} (h : t.ftb.slots = s.ftb.slots) (k : Nat) : t.slot k = s.slot k := by
  simp [State.slot, h]

theorem State.chain_of_chains {s t : State} (h : t.ftb.chains = s.ftb.chains) (b : Nat) : t.chain b = s.chain b := by
  simp [State.chain, h]

theorem State.claim_of_claims {s t : State} (h : t.ftb.claims = s.ftb.claims) (c : Nat) : t.claim c = s.claim c := by
  simp [State.claim, h]

theorem State.panel_of_panels {s t : State} (h : t.panels = s.panels) (p : Nat) : t.panel p = s.panel p := by
  simp [State.panel, h]

/-! ## Slots, claims and the field queue -/

/-- An update of the slots changes nothing but them. -/
theorem State.updSlot_eq (s : State) (k : Nat) (f : Record → Record) :
    s.updSlot k f = { s with ftb := { s.ftb with slots := (s.updSlot k f).ftb.slots } } := rfl

/-- Claiming cells leaves each of them with the claimer, every other cell as it was, and nothing else changed. -/
theorem State.claimAll_spec (s : State) (k : Nat) (cells : List Nat) :
    (∀ c, (s.claimAll k cells).claim c = if c ∈ cells then some k else s.claim c)
    ∧ s.claimAll k cells = { s with ftb := { s.ftb with claims := (s.claimAll k cells).ftb.claims } } := by
  induction cells generalizing s with
  | nil => simp [State.claimAll]
  | cons c cs ih =>
    obtain ⟨h1, h2⟩ := ih (s.setClaim c (some k))
    have hc : s.claimAll k (c :: cs) = (s.setClaim c (some k)).claimAll k cs := rfl
    rw [hc]
    refine ⟨fun d => ?_, h2.trans rfl⟩
    rw [h1, State.claim_setClaim]
    by_cases hd : d ∈ cs <;> by_cases he : d = c <;> simp [hd, he]

/-- The lowest FREE slot is FREE, among the 1024, and below it no slot is FREE. -/
theorem State.lowestFree_some {s : State} {k : Nat} (h : s.lowestFree = some k) :
    k < 1024 ∧ (s.slot k).state = .free ∧ ∀ j, j < k → (s.slot j).state ≠ .free := by
  obtain ⟨hk, hmem, hn⟩ := List.find?_range_eq_some.1 h
  exact ⟨List.mem_range.1 hmem, by simpa using hk, fun j hj => by simpa using hn j hj⟩

theorem Record.queued_due_eta (r : Record) {q d : Bool} (hq : r.queued = q) (hd : r.due = d) :
    { r with queued := q, due := d } = r := by subst hq hd; rfl

/-- What becoming due does to a record and to the field queue, whichever row of R140 holds. -/
theorem State.becomeDue_spec (s : State) (k : Nat) :
    let held : Bool := s.isLive k && s.isFrozen (s.slot k).panel
    (∀ j, (s.becomeDue k).slot j =
      if j = k then
        { s.slot k with queued := (s.slot k).queued || !held, due := (s.slot k).due || (!(s.slot k).queued && held) }
      else s.slot j)
    ∧ s.becomeDue k = { s with
        ftb := { s.ftb with slots := (s.becomeDue k).ftb.slots }
        ptr := { s.ptr with queue := if (s.slot k).queued || held then s.ptr.queue else s.ptr.queue ++ [k] } } := by
  simp only [State.becomeDue]
  by_cases hq : (s.slot k).queued = true
  · rw [if_pos hq]
    refine ⟨fun j => ?_, by simp [hq]⟩
    split
    · next h => subst h; exact (Record.queued_due_eta _ (by simp [hq]) (by simp [hq])).symm
    · rfl
  · rw [Bool.not_eq_true] at hq
    rw [if_neg (by simp [hq])]
    by_cases hh : (s.isLive k && s.isFrozen (s.slot k).panel) = true
    · rw [if_pos hh]
      refine ⟨fun j => ?_, by rw [hh, hq]; rfl⟩
      rw [State.slot_updSlot, hh]
      split
      · simp [hq]
      · rfl
    · rw [Bool.not_eq_true] at hh
      rw [if_neg (by simp [hh])]
      refine ⟨fun j => ?_, by rw [hh, hq]; rfl⟩
      have : (s.enqueue k).slot j = (s.updSlot k (fun r => { r with queued := true })).slot j := rfl
      rw [this, State.slot_updSlot, hh]
      split
      · simp
      · rfl

/-! ## MDC's takes (R12 to R15) -/

/-- The end of an execution that has left LKI as the take left it answers the message. -/
theorem State.endExecution_answered {s u : State} {m : Message} {reply : Bool} {r : Result} {data : List Byte}
    (h : u.lki = (s.taken reply).lki) : u.endExecution m.code r data = u.answered m reply r data := by
  simp [State.endExecution, State.answered, h, State.taken]

/-- What MDC does with a message it may take: the length is checked first, then the body decides. -/
theorem runCommand_ready {c : Command} {s : State} {m : Message} {reply : Bool} (h : s.Ready c m reply)
    (body : Message → State → Verdict) :
    runCommand c body s =
      if c.lengthOk m.params then
        match body m (s.taken reply) with
        | .refuse r => s.answered m reply r []
        | .done u data => u.endExecution m.code .ok data
        | .goesOn u => u
      else s.answered m reply .badLen [] := by
  have hm : (s.mayTake reply && m.code == c.code) = true := by
    have := h.room
    cases reply <;> simp_all [State.mayTake, h.running, h.idle, h.code]
  simp only [runCommand, h.held, hm, if_true]
  split
  · have : s.takeHeld reply = s.taken reply := rfl
    rw [this]
    cases body m (s.taken reply) <;> rfl
  · rfl

/-- A command changes nothing unless MDC may take a message of it. -/
theorem runCommand_cases (c : Command) (body : Message → State → Verdict) (s : State) :
    runCommand c body s = s ∨ ∃ m reply, s.Ready c m reply := by
  simp only [runCommand]
  split
  · next m reply hheld =>
    split
    · next h =>
      simp only [State.mayTake, Bool.and_eq_true, beq_iff_eq, Bool.not_eq_true', Bool.or_eq_true] at h
      exact .inr ⟨m, reply, h.1.1.1, h.1.1.2, hheld, h.2, fun hr => by simpa [hr] using h.1.2⟩
    · exact .inl rfl
  · exact .inl rfl

/-! ## Frames and lines -/

@[simp] theorem scanLine_length (vsync : Bool) (active : List Rgb) : (scanLine vsync active).length = active.length + 288 := by
  simp [scanLine]

/-- An active period of a line carries its pixel's levels. -/
theorem scanLine_active (vsync : Bool) (active : List Rgb) (x : Nat) (h : x < active.length) :
    (scanLine vsync active)[x]? = some { levels := active[x], hsync := false, vsync := vsync } := by
  simp [scanLine, List.getElem?_append, h]

/-- A period of horizontal blanking is dark, with HSYNC in the first 32. -/
theorem scanLine_blanking (vsync : Bool) (active : List Rgb) (x : Nat) (h : x < 288) :
    (scanLine vsync active)[active.length + x]? = some { levels := Rgb.black, hsync := x < 32, vsync := vsync } := by
  simp [scanLine, h]

@[simp] theorem blankedLine_length (vsync : Bool) : (blankedLine vsync).length = 1344 := by
  simp [blankedLine, -List.reduceReplicate]

/-- Every period of a line of vertical blanking is dark, with HSYNC in the first 32 of horizontal blanking. -/
theorem blankedLine_period (vsync : Bool) (x : Nat) (h : x < 1344) :
    (blankedLine vsync)[x]? = some { levels := Rgb.black, hsync := 1056 ≤ x ∧ x < 1088, vsync := vsync } := by
  have hl : (List.replicate 1056 Rgb.black).length = 1056 := List.length_replicate
  by_cases hx : x < 1056
  · rw [blankedLine, scanLine_active _ _ x (hl.symm ▸ hx), List.getElem_replicate]
    simp [Nat.not_le.2 hx]
  · obtain ⟨y, rfl⟩ := Nat.exists_eq_add_of_le (Nat.not_lt.1 hx)
    have := scanLine_blanking vsync (List.replicate 1056 Rgb.black) y (by omega)
    rw [hl] at this
    rw [blankedLine, this]
    simp only [Option.some.injEq, VideoPins.mk.injEq, true_and, and_true, decide_eq_decide]
    omega

@[simp] theorem verticalBlanking_length : verticalBlanking.length = 50 := by simp [verticalBlanking]

theorem verticalBlanking_line (line : Nat) (h : line < 50) : verticalBlanking[line]? = some (blankedLine (vsyncOn line)) := by
  simp [verticalBlanking, h]

/-- Rows are still to be read exactly when the next one is one of the 50. -/
theorem Dou.midFrame_iff (d : Dou) : d.midFrame = true ↔ ∃ row, d.nextRow = some row ∧ row < 50 := by
  simp [Dou.midFrame, Option.any_eq_true]

/-- A frame start does nothing while RESET is low or rows are still to be read. -/
theorem execFrameStart_waits (s : State) (h : (s.resetLow || s.dou.midFrame) = true) : execFrameStart s = .next s :=
  if_pos h

/-- A frame start that comes about. -/
theorem execFrameStart_starts (s : State) (h : (s.resetLow || s.dou.midFrame) = false) :
    execFrameStart s = .next ({ s with dou := s.dou.frameStart s.atu.attrs } : State).oweSweep := by
  simp [execFrameStart, h]

/-! ## Every write keeps the canonical form of its table -/

theorem State.TablesCanonical.setSlot {s : State} (h : s.TablesCanonical) (k : Nat) (r : Record) :
    (s.setSlot k r).TablesCanonical := { h with slots := Table.set_wf h.slots }

theorem State.TablesCanonical.updSlot {s : State} (h : s.TablesCanonical) (k : Nat) (f : Record → Record) :
    (s.updSlot k f).TablesCanonical := h.setSlot k _

theorem State.TablesCanonical.setChain {s : State} (h : s.TablesCanonical) (b : Nat) (c : List Nat) :
    (s.setChain b c).TablesCanonical := { h with chains := Table.set_wf h.chains }

theorem State.TablesCanonical.setClaim {s : State} (h : s.TablesCanonical) (c : Nat) (o : Option Nat) :
    (s.setClaim c o).TablesCanonical := { h with claims := Table.set_wf h.claims }

theorem State.TablesCanonical.writeCell {s : State} (h : s.TablesCanonical) (w : CellWrite) :
    (s.writeCell w).TablesCanonical := { h with cells := Table.set_wf h.cells }

theorem State.TablesCanonical.setPanel {s : State} (h : s.TablesCanonical) (p : Nat) (e : Option Panel) :
    (s.setPanel p e).TablesCanonical := { h with panels := Table.set_wf h.panels }

theorem State.TablesCanonical.setScheme {s : State} (h : s.TablesCanonical) (bank : Bank) (condition index : Nat) :
    (s.setScheme bank condition index).TablesCanonical := by
  cases bank
  · exact { h with bankA := Table.set_wf h.bankA }
  · exact { h with bankB := Table.set_wf h.bankB }

theorem State.TablesCanonical.claimAll {s : State} (h : s.TablesCanonical) (k : Nat) (cells : List Nat) :
    (s.claimAll k cells).TablesCanonical := by
  induction cells generalizing s with
  | nil => exact h
  | cons c cs ih => exact ih (h.setClaim c (some k))

theorem State.TablesCanonical.becomeDue {s : State} (h : s.TablesCanonical) (k : Nat) :
    (s.becomeDue k).TablesCanonical := by
  simp only [State.becomeDue]
  split
  · exact h
  · split
    · exact h.updSlot k _
    · exact { h.updSlot k (fun r => { r with queued := true }) with }

/-- The reset state's tables, with nothing listed, have the form. -/
theorem State.reset_canonical : State.reset.TablesCanonical := by constructor <;> rfl

end Sys2Proof.Machine
end

