-- ==== Sys2Proof/Tests/Slice0.lean ====
section
/-!
SUPPORT. The model's own tests: small steps whose expected results come from the manual's rules, tables and worked sequences.
Then, for each statement
with hypotheses, a witness: states and operands that meet them.
-/

namespace Sys2Proof.Tests
open Sys2Proof Sys2Proof.Machine

/-! ## Small states -/

/-- Out of reset, selected at address 3, the receiver in HUNT, nothing open or bound. -/
def running : State :=
  { State.reset with
    resetLow := false
    lki := { State.reset.lki with rx := .hunt, selection := .loud, unitAddress := 3 } }

/-- `s` with a message held for MDC, its reply flag set. -/
def holding (code : Byte) (params : List Byte) (s : State) : State :=
  { s with lki := { s.lki with held := some (.message { code := code, params := params } true) } }

/-- A panel of 20 rows and 40 columns at (page 1, row 2, column 3). -/
def window : Panel := { frozen := false, page := 1, row := 2, col := 3, height := 20, width := 40, bank := .a }

/-- A LIVE record of instrument 1 in panel 0, two cells wide, showing 50 whole. -/
def field (kind : Kind) : Record :=
  { Record.empty with
    state := .live, instrument := 1, kind := kind, page := 1, row := 2, col := 3, width := 2
    settings := { Settings.empty with filter := 5 }
    current := some 50, direction := .first }

/-- Panel 0 open, and slot 0 holding the record `r`, linked and claiming its span. -/
def oneRecord (r : Record) : State :=
  { running with
    ftb :=
      { running.ftb with
        slots := [(0, r)], chains := [(bucketOf r.instrument r.kind, [0])]
        claims := [(cellNumber 1 2 3, some 0), (cellNumber 1 2 4, some 0)], liveCount := 1, freeCount := 1023 }
    panels := [(0, some window)] }

/-- The state after command `i`, run alone; `s` itself if the command stopped. -/
def after (i : Instr) (s : State) : State :=
  match step { s with pending := [i] } with
  | .next t => t
  | .fault _ => s
  | .refused _ => s

/-- The last reply in the reply queue. -/
def lastReply (s : State) : List Byte := s.lki.replies.getLast?.getD []

/-! ## Well-formedness, codings, characters -/

/-- R8: a length byte is at most 60. -/
theorem test_message_of_61_parameters_is_refused :
    Message.wf ⟨0x50, List.replicate 61 0⟩ = false ∧ Message.wf ⟨0x50, List.replicate 60 0⟩ = true := by decide

/-- The check byte of section 1.11.1: the OK reply to that TICK ends in DCh. -/
theorem test_check_byte : replyOf 0x20 .ok [0x01, 0x01] = [0x20, 0x00, 0x02, 0x01, 0x01, 0xDC] := by decide

/-- The value of section 1.11.1 and two values of R20. -/
theorem test_quantities :
    s32 [0x00, 0x12, 0xD6, 0x87] 0 = 1234567 ∧ s32 [0x80, 0, 0, 0] 0 = -2147483648
    ∧ bytesS32 (-1) = [0xFF, 0xFF, 0xFF, 0xFF] := by decide

/-- Table 1-1: start, data from bit 0, mark 0, even parity, stop. -/
theorem test_reply_character :
    replyCharacter 0x13 = [false, true, true, false, false, true, false, false, false, false, true, true] := by decide

/-- R34: 01h + 11h + 70h + 2. -/
theorem test_bucket : bucketOf 70000 .last = 0x84 := by decide

/-- No row of the opcode table has bits, so no word is a command. -/
theorem test_no_word_is_a_command : decodeTableWord 0 0 = none ∧ decodeTableWord 8 0x20 = none := by decide

/-- Table 5-6, cases 2, 7, 14, 15 and 19. -/
theorem test_worked_cases :
    let f : FormatMode → Nat → Nat → Bool → Bool → Format := fun mode source display zero degrade =>
      { mode := mode, source := source, display := display, signAlways := false, fillZero := zero, degrade := degrade
        digits := false }
    formatValue (some 1234567) (f .dec 4 3 false true) 6 = ([0x31, 0x32, 0x33, 0x2E, 0x34, 0x36], false)
    ∧ formatValue (some (-3300)) (f .frac 5 5 true true) 8 = ([0x2D, 0x30, 0x31, 0x30, 0x33, 0x27, 0x30, 0x34], false)
    ∧ formatValue (some 3327) (f .frac 5 5 false true) 5 = ([0x31, 0x30, 0x34, 0x27, 0x30], false)
    ∧ formatValue (some (-1234)) (f .count 0 0 false true) 2 = ([0x30, 0x4D], false)
    ∧ formatValue (some 1234567) (f .dec 4 3 false false) 6 = (List.replicate 6 0x23, true) := by decide

/-- Table 4-4, ticks 2, 3 and 7. -/
theorem test_guard_of_worked_sequence :
    let lead : Int → Option Int → Nat → Record := fun current suspect holds =>
      { field .bid with settings := { Settings.empty with filter := 50 }, current := some current
                        suspectValue := suspect, holdCount := holds }
    guardVerdict (lead 10030 none 0) 10400 = .held
    ∧ guardVerdict (lead 10030 (some 10400) 1) 10420 = .confirmed
    ∧ guardVerdict (lead 10420 (some 20000) 3) 25000 = .capped := by decide

/-! ## The link -/

/-- R192, R191. -/
theorem test_reset_and_release :
    (after .powerOnReset (oneRecord (field .bid))).ftb.liveCount = 0
    ∧ (after (.resetRelease 7) State.reset).lki.unitAddress = 7
    ∧ (after (.resetRelease 7) State.reset).lki.rx = .settle := by decide

/-- Table 1-2: the moves that receive nothing. -/
theorem test_receiver_moves :
    (after .settleEnd (running.setRx .settle)).lki.rx = .hunt
    ∧ (after .startBitFall running).lki.rx = .receive
    ∧ (after .falseStart (running.setRx .receive)).lki.rx = .hunt
    ∧ (after .awaitHighExit (running.setRx .awaitHigh)).lki.rx = .hunt := by decide

/-- Table 1-3 at unit address 3: 03h LOUD, 13h and 1Fh QUIET, 04h DEAF; the parity of 03h with mark 1 is 1. -/
theorem test_address_characters :
    (after (.addressCharacter 0x03 true true) (running.setRx .receive)).lki.selection = .loud
    ∧ (after (.addressCharacter 0x13 false true) (running.setRx .receive)).lki.selection = .quiet
    ∧ (after (.addressCharacter 0x1F false true) (running.setRx .receive)).lki.selection = .quiet
    ∧ (after (.addressCharacter 0x04 false true) (running.setRx .receive)).lki.selection = .deaf
    ∧ (after (.addressCharacter 0x03 false true) (running.setRx .receive)).stu.sticky = 0x02 := by decide

/-- R1, R6: 07h has three ones, so its parity bit is 1; a low stop bit is a framing error. -/
theorem test_data_character :
    (after (.dataCharacter 0x07 true false) (running.setRx .receive)).lki.inbound
      = [{ value := 0x07, parityError := false, framingError := true, gap := false, boundary := false, reply := true }]
    ∧ (after (.dataCharacter 0x07 true false) (running.setRx .receive)).lki.rx = .awaitHigh := by decide

/-- R18. -/
theorem test_break :
    (after .breakEvent (holding 0x70 [0] (running.setRx .awaitHigh))).lki.held = none
    ∧ (after .breakEvent (running.setRx .awaitHigh)).lki.selection = .deaf := by decide

/-- R9: a length byte of 61 sends the assembler to SKIP with FORM. -/
theorem test_bad_length_skips :
    let e : Byte → InEntry := fun v =>
      { value := v, parityError := false, framingError := false, gap := false, boundary := false, reply := true }
    let s : State := { running with lki := { running.lki with inbound := [e 0x20, e 61] } }
    (after .assemblerTake (after .assemblerTake s)).lki.assembler = .skip
    ∧ (after .assemblerTake (after .assemblerTake s)).stu.sticky = 0x08 := by decide

/-- R13: a notice for CHECK is answered DISCARDED with 03h, an unknown code UNKNOWN, a bad length BADLEN. -/
theorem test_answers_without_decoding :
    let s : State := { running with lki := { running.lki with held := some (.notice 0x20 .check true) } }
    lastReply (after .discardNoticeTake s) = [0x20, 0x0F, 0x01, 0x03, 0xCD]
    ∧ lastReply (after .unknownCommand (holding 0x15 [] running)) = [0x15, 0x01, 0x00, 0xEA]
    ∧ lastReply (after .status (holding 0x70 [] running)) = [0x70, 0x02, 0x00, 0x8E] := by decide

/-- R16, R17: the reply gap is 4 after reset. -/
theorem test_transmitter :
    let s : State := { running with lki := { running.lki with replies := [[0x72, 0, 0, 0x8E]] } }
    (after (.replyStart 3) s).lki.tx = .released
    ∧ (after (.replyStart 4) s).lki.tx = .sending (replyLevels [0x72, 0, 0, 0x8E])
    ∧ (after .replyEnd (after (.replyStart 4) s)).lki.replies = []
    ∧ (after .replyCutShort { s with lki := { s.lki with tx := .cutShort } }).lki.tx = .released := by decide

/-! ## Records -/

/-- A BIND of instrument 1, kind LAST, at panel 0, row offset 4, column offset 5, width 3, COUNT, band OFF. -/
def bindParams : List Byte :=
  [0, 0, 1, 2, 0, 4, 5, 3, 2, 0, 0, 4, 0, 0, 0, 0, 0, 0, 0, 0, 0, 0, 0, 0, 0]

/-- R54, R25: the lowest FREE slot, anchored at the panel's origin plus the offsets. -/
theorem test_bind :
    let t := after .bind (holding 0x10 bindParams (oneRecord (field .bid)))
    lastReply t = [0x10, 0x00, 0x02, 0x00, 0x01, 0xED]
    ∧ (t.slot 1).state = .live ∧ (t.slot 1).row = 6 ∧ (t.slot 1).col = 8 ∧ t.ptr.queue = [1]
    ∧ t.claim (cellNumber 1 6 8) = some 1 := by decide +kernel

/-- R50, row 13: a span that overlaps a LIVE record's collides. -/
theorem test_bind_collides :
    lastReply (after .bind (holding 0x10 ([0, 0, 1, 2, 0, 0, 1, 3] ++ bindParams.drop 8) (oneRecord (field .bid))))
      = [0x10, 0x08, 0x00, 0xE8] := by decide +kernel

/-- R61, R86: AMEND to a band INSIDE 0..100 puts the value 50 in alert. -/
theorem test_amend :
    let t := after .amend (holding 0x11 [0, 0, 2, 0, 0, 4, 1, 0, 0, 0, 0, 0, 0, 0, 100, 0, 0, 0, 0] (oneRecord (field .bid)))
    (t.slot 0).band = .within ∧ (t.slot 0).alert = true ∧ (t.slot 0).age = 90 ∧ t.alerts.length = 1 := by decide

/-- R63, R22. -/
theorem test_retire :
    let t := after .retire (holding 0x12 [0, 0] (oneRecord (field .bid)))
    (t.slot 0).state = .retiring ∧ t.ftb.liveCount = 0 ∧ t.ftb.retiringCount = 1 ∧ t.ptr.queue = [0]
    ∧ t.chain 1 = [] := by decide

/-- R43: slot 0, one mirror, current present, 50, direction FIRST. -/
theorem test_lookup :
    (lastReply (after .lookup (holding 0x13 [0, 0, 1, 0] (oneRecord (field .bid))))).take 16
      = [0x13, 0x00, 0x15, 0, 0, 1, 0x01, 0, 0, 0, 50, 0, 0, 0, 0, 1] := by decide

/-- R45: a FREE slot answers its state alone, a LIVE one without an image 58 bytes. -/
theorem test_probe :
    lastReply (after .probe (holding 0x14 [0, 9] (oneRecord (field .bid)))) = [0x14, 0x00, 0x01, 0x00, 0xEB]
    ∧ (lastReply (after .probe (holding 0x14 [0, 0] (oneRecord (field .bid))))).length = 62 := by decide

/-! ## Ticks -/

/-- R71, R72: 60 is 10 away from 50 with filter limit 5, so it is held; the reply is HELD, 0. -/
theorem test_tick_held :
    let t := after .tick (holding 0x20 [0, 0, 1, 0, 0, 0, 0, 60] (oneRecord (field .bid)))
    lastReply t = [0x20, 0x00, 0x02, 0x04, 0x00, 0xDA]
    ∧ (t.slot 0).suspectValue = some 60 ∧ (t.slot 0).holdCount = 1 ∧ (t.slot 0).suspect = true ∧ t.stu.sticky = 0x20 := by decide +kernel

/-- R75, R76: 53 is accepted, class UP, with a TICK highlight of 30 frames. -/
theorem test_tick_accepted :
    let t := after .tick (holding 0x20 [0, 0, 1, 0, 0, 0, 0, 53] (oneRecord (field .bid)))
    lastReply t = [0x20, 0x00, 0x02, 0x01, 0x01, 0xDC]
    ∧ (t.slot 0).current = some 53 ∧ (t.slot 0).previous = some 50 ∧ (t.slot 0).direction = .up
    ∧ (t.slot 0).highlight = .tick ∧ (t.slot 0).age = 30 ∧ t.ptr.queue = [0] := by decide +kernel

/-- R68: BID 53 is accepted, ASK 54 names no record. -/
theorem test_qtick :
    lastReply (after .qtick (holding 0x21 [0, 0, 1, 0, 2, 0, 0, 0, 53, 0, 0, 0, 54] (oneRecord (field .bid))))
      = [0x21, 0x00, 0x04, 1, 1, 0, 0, 0xD9] := by decide +kernel

/-- R79, R80: a LAST of 60 with no LAST record moves a HIGH of 50. -/
theorem test_trade_reaches_high :
    let t := after .tick (holding 0x20 [0, 0, 1, 2, 0, 0, 0, 60] (oneRecord (field .high)))
    (t.slot 0).current = some 60 ∧ (t.slot 0).direction = .up
    ∧ lastReply t = [0x20, 0x00, 0x02, 0x01, 0x01, 0xDC] := by decide +kernel

/-- Section 4.10, step 3: last 1,185,000 less −2,147,483,647 saturates, direction FIRST. -/
theorem test_refer_saturates :
    let r := { field .net with current := some (-15000), reference := some 1200000, lastOperand := some 1185000 }
    let t := after .refer (holding 0x22 [0, 0, 1, 1, 0x80, 0, 0, 1] (oneRecord r))
    (t.slot 0).current = some 2147483647 ∧ (t.slot 0).previous = some (-15000) ∧ (t.slot 0).direction = .first := by decide +kernel

/-- R84: with no LAST lead a HIGH is left without a value. -/
theorem test_extremes_clear :
    let t := after .extremesClear (holding 0x23 [0, 0, 1] (oneRecord (field .high)))
    (t.slot 0).current = none ∧ (t.slot 0).direction = .unset ∧ (t.slot 0).newValue = true := by decide +kernel

/-- R85. -/
theorem test_stale :
    let t := after .stale (holding 0x24 [0, 0, 1] (oneRecord (field .size)))
    (t.slot 0).stale = true ∧ (t.slot 0).newValue = false ∧ t.ptr.queue = [0] := by decide +kernel

/-- R91, Table 1-9: m, then 11 bytes. -/
theorem test_alerts :
    let s : State := { running with alerts := [{ slot := 258, instrument := 4100, kind := .high, band := .above, value := -2 }] }
    let t := after .alerts (holding 0x25 [8] s)
    ((lastReply t).drop 3).take 12 = [1, 1, 2, 0, 0x10, 0x04, 5, 3, 0xFF, 0xFF, 0xFF, 0xFE]
    ∧ t.alerts = [] := by decide

/-! ## Panels -/

/-- R114. -/
theorem test_panel_open :
    (after .panelOpen (holding 0x30 [5, 1, 2, 3, 20, 40, 0] running)).panel 5 = some window
    ∧ lastReply (after .panelOpen (holding 0x30 [5, 1, 31, 3, 20, 40, 0] running)) = [0x30, 0x07, 0x00, 0xC9] := by decide

/-- R115. -/
theorem test_panel_close :
    let t := after .panelClose (holding 0x31 [0] (oneRecord (field .bid)))
    t.panel 0 = none ∧ (t.slot 0).state = .retiring ∧ t.ptr.queue = [0] := by decide +kernel

/-- R116, R118: a freeze takes a queued record out of the queue, the thaw puts it back. -/
theorem test_panel_freeze_and_thaw :
    let s := (oneRecord (field .bid)).becomeDue 0
    let t := after .panelFreeze (holding 0x32 [0] s)
    let u := after .panelThaw (holding 0x33 [0] t)
    t.ptr.queue = [] ∧ (t.slot 0).due = true ∧ u.ptr.queue = [0] ∧ (u.slot 0).due = false := by decide +kernel

/-- R120, R121: the move waits for the blank of each old cell, then claims the new span. -/
theorem test_panel_move :
    let s := (oneRecord (field .bid)).setPanel 0 (some { window with frozen := true })
    let t := after .vacateWriteGrant (after .vacateWriteGrant (after .panelMove (holding 0x34 [0, 2, 5, 6] s)))
    t.mdc = .idle ∧ t.claim (cellNumber 1 2 3) = none ∧ t.claim (cellNumber 2 5 6) = some 0 ∧ (t.slot 0).due = true
    ∧ t.cell (cellNumber 1 2 3) = { char := 0x20, attr := 0 } := by decide +kernel

/-! ## Attributes, text, display, status -/

/-- R125. -/
theorem test_attr_set :
    (after .attrSet (holding 0x40 [63, 15, 1, 0x0A] running)).attr 63
      = { foreground := 15, background := 1, bold := false, underline := true, reverse := false, blink := true } := by decide

/-- R136, R137. -/
theorem test_schemes :
    let t := after .schemeSet (holding 0x41 [0, 15, 9] (oneRecord (field .bid)))
    t.scheme .a 15 = 9 ∧ t.ptr.queue = [0]
    ∧ (after .schemeSwap (holding 0x42 [] (oneRecord (field .bid)))).ptr.queue = [0]
    ∧ (after .schemeSwap (holding 0x42 [] { t with lki := running.lki })).scheme .b 15 = 9 := by decide +kernel

/-- R174, R176: panel form, clipped at the panel's right edge (2 of 3 characters), a claimed cell kept. -/
theorem test_text :
    let t := after .text (holding 0x50 [0, 0, 1, 38, 7, 0x41, 0x42, 0x43] (oneRecord (field .bid)))
    let u := after .textWriteGrant (after .textWriteGrant t)
    u.mdc = .idle ∧ u.cell (cellNumber 1 3 41) = { char := 0x41, attr := 7 }
    ∧ u.cell (cellNumber 1 3 42) = { char := 0x42, attr := 7 } ∧ u.cell (cellNumber 1 3 43) = Cell.blank := by decide

/-- R175, R176: FILL row by row; a claimed cell drops the write. -/
theorem test_fill :
    let t := after .fill (holding 0x51 [255, 1, 2, 4, 2, 2, 0x2A, 3] (oneRecord (field .bid)))
    let u := after .textWriteGrant (after .textWriteGrant t)
    u.cell (cellNumber 1 2 4) = Cell.blank ∧ u.cell (cellNumber 1 2 5) = { char := 0x2A, attr := 3 }
    ∧ u.mdc ≠ .idle := by decide

/-- R178, R179, R177: a pending page and pattern wait for the frame start. -/
theorem test_show_and_pattern :
    let t := after .pattern (holding 0x61 [1] (after .showPage (holding 0x60 [3] running)))
    t.dou.shown = 0 ∧ t.dou.pendingPage = some 3
    ∧ (after .frameStart t).dou.shown = 3 ∧ (after .frameStart t).dou.pattern = true
    ∧ (after .frameStart t).dou.blink = 1 ∧ (after .frameStart t).agu.owed = 1 := by decide

/-- R181. -/
theorem test_glyph_load :
    (after .glyphLoad (holding 0x62 (0x80 :: List.replicate 13 0 ++ [0xFF]) running)).glyph 128
      = List.replicate 13 0 ++ [0xFF] := by decide

/-- R183: a cell of code DBh in attribute entry 0, colour 7 on 0, lights all 8 pixels; pattern state paints colour 15. -/
theorem test_drawing :
    running.dou.cellLine 0 0 0 { char := 0xDB, attr := 0 } = List.replicate 8 { red := 2, green := 2, blue := 2 }
    ∧ { running.dou with pattern := true }.cellLine 0 0 0 { char := 0xDB, attr := 0 }
      = List.replicate 8 { red := 3, green := 3, blue := 3 } := by decide

/-- R184, R177: level 0 before the first frame start; a frame of 750 lines, of which a second frame start cuts none. -/
theorem test_frame_lines :
    let t := after .frameStart running
    running.dou.video = .steady VideoPins.quiet ∧ verticalBlanking.length + 50 * 14 = 750
    ∧ (after .frameStart t).dou.blink = 1 ∧ (after .frameStart { t with dou := { t.dou with nextRow := some 50 } }).dou.blink = 2 := by
  decide +kernel

/-- R183, Table 10-6: HSYNC in periods 1056 to 1087 of a line, at level 0; a blanked line is dark throughout. -/
theorem test_line_periods :
    let ps := scanLine false (List.replicate 1056 { red := 3, green := 3, blue := 3 })
    ps.length = 1344
    ∧ ps[1055]? = some { levels := { red := 3, green := 3, blue := 3 }, hsync := false, vsync := false }
    ∧ ps[1056]? = some { levels := Rgb.black, hsync := true, vsync := false }
    ∧ ps[1087]?.map VideoPins.hsync = some true ∧ ps[1088]? = some VideoPins.quiet
    ∧ (verticalBlanking[0]?.bind (fun l => l[0]?)).map VideoPins.levels = some Rgb.black := by decide +kernel

/-- R187, Table 1-9: 15 bytes; the flags named by the mask are cleared. -/
theorem test_status :
    let s := running.raise .held
    let t := after .status (holding 0x70 [0x20] s)
    ((lastReply t).drop 3).take 15 = [0x20, 0, 0, 0, 0, 0, 0, 0, 0, 4, 0, 0, 0xFF, 0, 3]
    ∧ t.stu.sticky = 0 := by decide

/-- R189, R167: 0 frames count as 1, a threshold above 1023 as 1023. -/
theorem test_config :
    let t := after .config (holding 0x71 [0, 6, 0x0F, 0, 9, 0x21, 1] running)
    t.agu = { owed := 0, flashFrames := 1, alertFrames := 6, threshold := 1023 } ∧ t.lki.replyGap = 9
    ∧ t.stu.flagEnables = 0x21 ∧ t.stu.alertEnable = true := by decide +kernel

/-! ## The Painter, SYNC, the sweep -/

/-- R145 to R148, R157, R158: SYNC waits for the paint of a queued record, whose two cells show "50". -/
theorem test_paint_and_sync :
    let s := after .sync (holding 0x72 [] (((oneRecord (field .bid)).updSlot 0 (fun r =>
      { r with settings := { r.settings with format := { r.settings.format with mode := .count } } })).becomeDue 0))
    let t := after .paintWriteGrant (after .paintWriteGrant (after .painterTake s))
    s.mdc = .syncing ⟨0x72, []⟩ false [0] ∧ t.mdc = .idle ∧ t.lki.replies = [[0x72, 0, 0, 0x8E]]
    ∧ (t.cell (cellNumber 1 2 3)).char = 0x35 ∧ (t.cell (cellNumber 1 2 4)).char = 0x30
    ∧ (t.slot 0).image = some [0x35, 0x30] := by decide

/-- R149 to R151: a clear job blanks the cells, releases the claims and frees the slot. -/
theorem test_clear_job :
    let s := after .retire (holding 0x12 [0, 0] (oneRecord (field .bid)))
    let t := after .clearWriteGrant (after .clearWriteGrant (after .painterTake s))
    t.slot 0 = Record.empty ∧ t.ftb.claims = [] ∧ t.ftb.freeCount = 1024 ∧ t.ptr.painter = .idle := by decide

/-- R165: a sweep of 3 frames ends a highlight of age 3, and its record becomes due. -/
theorem test_sweep :
    let s : State := { oneRecord { field .bid with highlight := .tick, age := 3, mask := [0] } with
      agu := { running.agu with owed := 3 } }
    let t := after .sweep s
    (t.slot 0).highlight = .off ∧ (t.slot 0).mask = [] ∧ t.ptr.queue = [0] ∧ t.agu.owed = 0 := by decide +kernel

/-! ## A populated sound state -/

theorem slot_oneRecord (r : Record) (k : Nat) : (oneRecord r).slot k = if k = 0 then r else Record.empty := by
  simp only [State.slot, oneRecord, Table.get, eq_comm]

theorem chain_oneRecord (r : Record) (b : Nat) :
    (oneRecord r).chain b = if b = bucketOf r.instrument r.kind then [0] else [] := by
  simp only [State.chain, oneRecord, Table.get, eq_comm]

theorem panel_oneRecord (r : Record) (p : Nat) : (oneRecord r).panel p = if p = 0 then some window else none := by
  simp only [State.panel, oneRecord, Table.get, eq_comm]

theorem claim_oneRecord (r : Record) (c : Nat) :
    (oneRecord r).claim c = if c = 6867 ∨ c = 6868 then some 0 else none := by
  have h1 : cellNumber 1 2 3 = 6867 := by decide
  have h2 : cellNumber 1 2 4 = 6868 := by decide
  simp only [State.claim, oneRecord, Table.get, h1, h2, eq_comm]
  by_cases h : c = 6867 <;> by_cases h' : c = 6868 <;> simp [h, h']

theorem isLive_oneRecord {r : Record} (h : r.state = .live) (k : Nat) :
    (oneRecord r).isLive k = true ↔ k = 0 := by
  simp only [State.isLive, slot_oneRecord]
  by_cases hk : k = 0 <;> simp [hk, h, Record.empty]

/-- One LIVE record, linked in the chain of its key: the Key Index is sound. -/
theorem oneRecord_chainsSound {r : Record} (h : r.state = .live) : (oneRecord r).ChainsSound where
  nodup b := by rw [chain_oneRecord]; split <;> simp
  members b k := by
    rw [chain_oneRecord, isLive_oneRecord h, slot_oneRecord]
    by_cases hk : k = 0
    · subst hk; simp only [if_true, true_and]; split <;> simp_all [eq_comm]
    · split <;> simp [hk]
  four i k := by
    refine Nat.le_trans (List.length_filter_le ..) ?_
    rw [chain_oneRecord]; split <;> simp

/-- A record that waits to be painted: queued at the head of the field queue. -/
def waiting : State :=
  { oneRecord { field .bid with queued := true } with ptr := { running.ptr with queue := [0] }, pending := [.painterTake] }

theorem slot_waiting (k : Nat) : waiting.slot k = if k = 0 then { field .bid with queued := true } else Record.empty :=
  slot_oneRecord _ k

theorem panel_waiting (p : Nat) : waiting.panel p = if p = 0 then some window else none := panel_oneRecord Record.empty p

theorem claim_waiting (c : Nat) : waiting.claim c = if c = 6867 ∨ c = 6868 then some 0 else none :=
  claim_oneRecord { field .bid with queued := true } c

theorem isLive_waiting (k : Nat) : waiting.isLive k = true ↔ k = 0 := isLive_oneRecord (r := { field .bid with queued := true }) rfl k

theorem lead_waiting (i : Nat) (kind : Kind) :
    waiting.mirrors i kind = if i = 1 ∧ kind = .bid then [0] else [] := by
  have hc : ∀ b, waiting.chain b = if b = 1 then [0] else [] := chain_oneRecord { field .bid with queued := true }
  simp only [State.mirrors, hc]
  by_cases hi : i = 1 ∧ kind = .bid
  · obtain ⟨rfl, rfl⟩ := hi; rfl
  · rw [if_neg hi]
    split
    · simp only [List.filter_cons, slot_waiting, if_true, List.filter_nil]
      rw [if_neg]
      intro h
      simp only [Bool.and_eq_true, beq_iff_eq] at h
      exact hi ⟨h.1.2.symm, h.2.symm⟩
    · rfl

theorem waiting_sound : waiting.Sound where
  tables := by constructor <;> decide
  link :=
    { inbound := by decide, replies := by decide, owed := by decide, assembling := trivial, held := by simp [waiting, oneRecord, running, State.reset]
      sending := by simp [waiting, oneRecord, running, State.reset], gap := by decide, onlyLoudReplies := by decide }
  bounded := by constructor <;> simp [waiting, oneRecord, running, State.reset]
  inRange :=
    { slots := fun k h => by rw [slot_waiting, if_neg (by omega)]
      chains := fun b h => by
        have hc : waiting.chain b = if b = 1 then [0] else [] := chain_oneRecord { field .bid with queued := true } b
        rw [hc, if_neg (by omega)]
      claims := fun c h => by rw [claim_waiting, if_neg (by omega)]
      cells := fun c _ => rfl
      cellAttrs := fun c => Nat.zero_le _
      panels := fun p h => by rw [panel_waiting, if_neg (by omega)]
      rectangles := fun p e h => by
        rw [panel_waiting] at h
        split at h
        · cases h; constructor <;> decide
        · cases h
      attrs := fun i _ => rfl
      banks := fun bank c => by cases bank <;> exact ⟨Nat.zero_le _, fun _ => rfl⟩
      glyphs := fun c => ⟨rfl, fun _ => rfl⟩
      ungranted := by simp [State.ungranted, waiting, oneRecord, running, State.reset]
      clearedIndex := by simp [waiting, oneRecord, running, State.reset] }
  queue :=
    { nodup := by decide
      flag := fun k => by
        rw [slot_waiting]
        by_cases hk : k = 0 <;> simp [hk, waiting, Record.empty]
      members := fun k h => by
        have hk : k = 0 := by simpa [waiting] using h
        subst hk
        exact .inr ⟨rfl, window, rfl, rfl⟩
      due := fun k h => by
        rw [slot_waiting] at h
        split at h <;> exact absurd h (by decide)
      retiring := fun k h => by
        rw [slot_waiting] at h
        split at h <;> exact absurd h (by decide)
      painting := by simp [waiting, running, State.reset]
      clearing := by simp [waiting, running, State.reset]
      housed := fun k h => by rw [(isLive_waiting k).1 h]; decide }
  chains :=
    have h := oneRecord_chainsSound (r := { field .bid with queued := true }) rfl
    { nodup := h.nodup, members := h.members, four := h.four }
  mirrors := fun j k hj hk _ _ => by rw [(isLive_waiting j).1 hj, (isLive_waiting k).1 hk]; simp
  guarded :=
    { lead := fun i kind k h => by
        simp only [State.lead, lead_waiting] at h
        split at h
        · cases h; decide
        · cases h
      suspects := fun i kind l k hl hk => by
        simp only [State.lead, lead_waiting] at hl hk
        split at hl
        · next h => cases hl; rw [if_pos h] at hk; simp at hk; subst hk; decide
        · cases hl
      others := fun k _ => by rw [slot_waiting]; split <;> exact ⟨rfl, rfl⟩
      derived := fun k _ => by rw [slot_waiting]; split <;> exact ⟨rfl, rfl⟩ }
  claims :=
    { owner := fun c k h => by
        rw [claim_waiting] at h
        split at h
        · next hc =>
          cases h
          refine ⟨by decide, ?_⟩
          have : (waiting.slot 0).span = [6867, 6868] := by decide
          rw [this]; rcases hc with rfl | rfl <;> decide
        · cases h
      full := fun k h _ c hc => by
        rw [(isLive_waiting k).1 h] at hc ⊢
        have : (waiting.slot 0).span = [6867, 6868] := by decide
        rw [this] at hc
        rw [claim_waiting, if_pos (by simpa using hc)]
      anchored := fun k e h _ he => by
        rw [(isLive_waiting k).1 h] at he ⊢
        cases he; decide
      inPanel := fun k e h he => by
        rw [(isLive_waiting k).1 h] at he ⊢
        cases he; decide
      inPage := fun k h => by
        rw [slot_waiting] at h ⊢
        split
        · decide
        · next hk => exact absurd rfl (by rw [if_neg hk] at h; exact h)
      apart := fun j k hj hk hne => absurd ((isLive_waiting j).1 hj ▸ (isLive_waiting k).1 hk ▸ rfl) hne
      clearing := by simp [waiting, running, State.reset]
      vacating := by simp [waiting, oneRecord, running, State.reset]
      moving := by simp [waiting, oneRecord, running, State.reset] }
  records := fun k => by
    rw [slot_waiting]
    split
    · constructor <;> simp [field, Record.empty, Settings.empty, inValueRange, bandStateOf, alertCondition, sourceOk, instrumentOk]
    · constructor <;> simp [Record.empty, Settings.empty, inValueRange, bandStateOf, alertCondition, sourceOk, netValue]
  alerts := ⟨by decide, by simp [waiting, oneRecord, running, State.reset]⟩
  counted := ⟨by decide +kernel, by decide +kernel, by decide +kernel⟩

/-! ## Witnesses: states and operands that meet the hypotheses of each statement, clause by clause -/

/-- MDC may take the message that `holding` puts before it. -/
theorem ready_holding (c : Command) (p : List Byte) {s : State} (h1 : s.resetLow = false) (h2 : s.mdc = .idle)
    (h3 : s.lki.replies = []) : (holding c.code p s).Ready c ⟨c.code, p⟩ true :=
  ⟨h1, h2, rfl, rfl, fun _ => by simp [holding, h3]⟩

theorem ready_running (c : Command) (p : List Byte) : (holding c.code p running).Ready c ⟨c.code, p⟩ true :=
  ready_holding c p rfl rfl rfl

theorem ready_oneRecord (c : Command) (p : List Byte) (r : Record) :
    (holding c.code p (oneRecord r)).Ready c ⟨c.code, p⟩ true := ready_holding c p rfl rfl rfl

theorem witness_StepRunsFrontCommand :
    { running with pending := [.sweep, .frameStart] }.pending = [.sweep, .frameStart] ∧ running.pending = [] := by decide

theorem witness_ResetHoldsUntilRelease :
    State.reset.resetLow = true ∧ Instr.bind ≠ .powerOnReset ∧ ∀ strap, Instr.bind ≠ .resetRelease strap := by
  simp [State.reset]

theorem witness_ReceiverMoves :
    running.resetLow = false ∧ running.lki.rx = .hunt ∧ (running.setRx .settle).lki.rx = .settle
    ∧ (running.setRx .receive).lki.rx = .receive ∧ (running.setRx .awaitHigh).lki.rx = .awaitHigh := by decide

/-- An entry of the inbound queue with no damage. -/
def entry (v : Byte) : InEntry :=
  { value := v, parityError := false, framingError := false, gap := false, boundary := false, reply := true }

/-- The receiver in RECEIVE, `n` entries queued. -/
def receiving (n : Nat) : State :=
  { running with lki := { running.lki with rx := .receive, inbound := List.replicate n (entry 0x20) } }

theorem witness_AddressCharacterSelects :
    (receiving 0).resetLow = false ∧ (receiving 0).lki.rx = .receive ∧ (receiving 0).lki.inbound = []
    ∧ (receiving 2).lki.rx = .receive ∧ (receiving 2).lki.inbound = [entry 0x20] ++ [entry 0x20] := by decide

/-- Leaving LOUD by 04h, staying in it by 03h, and leaving it by a break while a reply is sent. -/
theorem witness_LeavingLoudCancelsReplies :
    (receiving 2).resetLow = false ∧ (receiving 2).lki.rx = .receive ∧ (receiving 2).lki.selection = .loud
    ∧ (after (.addressCharacter 0x04 false true) (receiving 2)).lki.selection ≠ .loud
    ∧ exec (.addressCharacter 0x04 false true) (receiving 2)
      = .next (after (.addressCharacter 0x04 false true) (receiving 2))
    ∧ (after (.addressCharacter 0x03 true true) (receiving 2)).lki.selection = .loud
    ∧ exec (.addressCharacter 0x03 true true) (receiving 2)
      = .next (after (.addressCharacter 0x03 true true) (receiving 2))
    ∧ (running.setRx .awaitHigh).lki.rx = .awaitHigh ∧ (running.setRx .settle).lki.rx = .settle
    ∧ exec .breakEvent (running.setRx .awaitHigh) = .next (after .breakEvent (running.setRx .awaitHigh)) :=
  ⟨by decide, by decide, by decide, by decide, rfl, by decide, rfl, by decide, by decide, rfl⟩

/-- DEAF; 0 and 63 entries; 64 entries. -/
theorem witness_DataCharacterQueued :
    ({ (receiving 0) with lki := { (receiving 0).lki with selection := .deaf } } : State).lki.selection = .deaf
    ∧ (receiving 63).lki.rx = .receive ∧ (receiving 63).lki.selection ≠ .deaf ∧ (receiving 63).lki.inbound.length < 64
    ∧ (receiving 64).lki.rx = .receive ∧ (receiving 64).lki.selection ≠ .deaf ∧ 64 ≤ (receiving 64).lki.inbound.length := by
  decide

theorem witness_BreakActsOnLinkAlone :
    (running.setRx .awaitHigh).resetLow = false ∧ (running.setRx .awaitHigh).lki.rx = .awaitHigh
    ∧ (running.setRx .settle).lki.rx = .settle := by decide

theorem witness_AssemblerTakesHeadEntry :
    (receiving 2).resetLow = false ∧ (receiving 2).lki.held = none
    ∧ (receiving 2).lki.inbound = entry 0x20 :: [entry 0x20] := by decide

/-- A message of `n` parameters, all 0, and check byte `check`, in the inbound queue with its takes waiting. -/
def arriving (n : Nat) (check : InEntry) : State :=
  { running with
    pending := List.replicate (n + 3) Instr.assemblerTake
    lki := { running.lki with
      inbound := entry 0x70 :: entry (BitVec.ofNat 8 n) :: List.replicate n (entry 0) ++ check :: [] } }

/-- Lengths 0 and 60. -/
theorem witness_MessageAssembledOrDiscarded :
    ∀ n ∈ [0, 60], (arriving n (entry 0x54)).resetLow = false ∧ (arriving n (entry 0x54)).lki.held = none
      ∧ (arriving n (entry 0x54)).lki.assembler = .waitCode
      ∧ (arriving n (entry 0x54)).lki.inbound
        = entry 0x70 :: entry (BitVec.ofNat 8 n) :: List.replicate n (entry 0) ++ entry 0x54 :: []
      ∧ (List.replicate n (entry 0)).length = (entry (BitVec.ofNat 8 n)).value.toNat
      ∧ (List.replicate n (entry 0)).length ≤ 60
      ∧ (entry (BitVec.ofNat 8 n)).parityError = false ∧ (entry (BitVec.ofNat 8 n)).framingError = false
      ∧ (entry (BitVec.ofNat 8 n)).gap = false
      ∧ (∀ e ∈ entry 0x70 :: entry (BitVec.ofNat 8 n) :: List.replicate n (entry 0), e.boundary = false)
      ∧ (arriving n (entry 0x54)).pending
        = List.replicate ((List.replicate n (entry 0)).length + 3) Instr.assemblerTake ++ [] := by decide

theorem witness_NoticeUnknownAndLengthAnswered :
    let s : State := { running with lki := { running.lki with held := some (.notice 0x20 .line true) } }
    (s.resetLow = false ∧ s.mdc = .idle ∧ s.lki.held = some (.notice 0x20 .line true) ∧ s.lki.replies.length < 4)
    ∧ ((holding 0x15 [] running).lki.held = some (.message ⟨0x15, []⟩ true) ∧ (holding 0x15 [] running).mdc = .idle)
    ∧ ((holding Command.status.code [] running).Ready .status ⟨0x70, []⟩ true ∧ ([] : List Byte).length ∉ tableLengths .status)
    ∧ ((holding Command.qtick.code [0, 0, 1, 0, 2, 0, 0, 0, 0] running).Ready .qtick ⟨0x21, [0, 0, 1, 0, 2, 0, 0, 0, 0]⟩ true
      ∧ (([0, 0, 1, 0, 2, 0, 0, 0, 0] : List Byte).getD 4 0).toNat ≠ (9 - 5) / 4) :=
  ⟨by decide, by decide, ⟨ready_running .status [], by decide⟩, ready_running .qtick [0, 0, 1, 0, 2, 0, 0, 0, 0], by decide⟩

theorem witness_MdcWaitsForItsTurn :
    ({ holding 0x70 [0] running with mdc := .syncing ⟨0x72, []⟩ false [0] } : State).mdc ≠ .idle
    ∧ Command.status.instr = .status ∧ running.lki.held = none
    ∧ (let s := holding 0x70 [0] { running with lki := { running.lki with replies := List.replicate 4 [0x72, 0, 0, 0x8E] } }
       (∃ h, s.lki.held = some h ∧ h.reply = true) ∧ 4 ≤ s.lki.replies.length) :=
  ⟨by decide, rfl, rfl, ⟨_, rfl, rfl⟩, by decide⟩

theorem witness_RefusedCommandChangesNothing :
    (holding Command.alerts.code [9] running).Ready .alerts ⟨0x25, [9]⟩ true
    ∧ exec Command.alerts.instr (holding 0x25 [9] running) = .next (after .alerts (holding 0x25 [9] running))
    ∧ (after .alerts (holding 0x25 [9] running)).lki.replies
      = (holding 0x25 [9] running).lki.replies ++ [(0x25 : Byte) :: (0x03 : Byte) :: [0x00, 0xD8]]
    ∧ (0x03 : Byte) ≠ 0 := ⟨ready_running .alerts [9], rfl, by decide, by decide⟩

/-- The first and the last level of the second of two characters. -/
theorem witness_ReplyCharactersOnTheLine :
    ([0x12, 0x34] : List Byte)[1]? = some 0x34 ∧ 0 < 12 ∧ 11 < 12 := by decide

/-- WAITING, SENDING, cut short, and IDLE. -/
theorem witness_TransmitterSendsHeadReply :
    let s : State := { running with lki := { running.lki with replies := [[0x72, 0, 0, 0x8E]] } }
    s.resetLow = false ∧ s.lki.replies = [0x72, 0, 0, 0x8E] :: [] ∧ s.lki.selection = .loud ∧ s.lki.tx = .released
    ∧ (after (.replyStart 4) s).lki.tx = .sending (replyLevels [0x72, 0, 0, 0x8E])
    ∧ ({ s with lki := { s.lki with tx := .cutShort } } : State).lki.tx = .cutShort ∧ running.lki.replies = [] := by decide

/-- The boundary values of each quantity. -/
theorem witness_QuantitiesReadAsSent :
    (65535 : Nat) < 65536 ∧ (16777215 : Nat) < 16777216 ∧ (-2147483648 : Int) ≤ -2147483648
    ∧ (2147483647 : Int) ≤ 2147483647 := by decide

/-- Instrument 0, 1,048,576 and a bad kind; a key with no record; the key of the one record. -/
theorem witness_LookupReportsLead :
    (∀ p ∈ ([[0, 0, 0, 0], [0x10, 0, 0, 0], [0, 0, 1, 7]] : List (List Byte)),
      (holding Command.lookup.code p (oneRecord (field .bid))).Ready .lookup ⟨0x13, p⟩ true)
    ∧ (number24 0 0 0 = 0 ∧ 1048575 < number24 0x10 0 0 ∧ 6 < (7 : Byte).toNat)
    ∧ (holding Command.lookup.code [0x0F, 0xFF, 0xFF, 6] (oneRecord (field .bid))).Ready .lookup ⟨0x13, [0x0F, 0xFF, 0xFF, 6]⟩ true
    ∧ (1 ≤ number24 0x0F 0xFF 0xFF ∧ number24 0x0F 0xFF 0xFF ≤ 1048575 ∧ (6 : Byte).toNat = Kind.low.number
      ∧ (holding 0x13 [0x0F, 0xFF, 0xFF, 6] (oneRecord (field .bid))).lead (number24 0x0F 0xFF 0xFF) .low = none)
    ∧ (holding Command.lookup.code [0, 0, 1, 0] (oneRecord (field .bid))).Ready .lookup ⟨0x13, [0, 0, 1, 0]⟩ true
    ∧ (1 ≤ number24 0 0 1 ∧ number24 0 0 1 ≤ 1048575 ∧ (0 : Byte).toNat = Kind.bid.number
      ∧ (holding 0x13 [0, 0, 1, 0] (oneRecord (field .bid))).lead (number24 0 0 1) .bid = some 0) :=
  ⟨fun p _ => ready_oneRecord .lookup p _, by decide, ready_oneRecord .lookup _ _, by decide,
    ready_oneRecord .lookup _ _, by decide⟩

/-- Slots 1024, 1023 (FREE) and 0 (LIVE). -/
theorem witness_ProbeReportsSlot :
    (∀ p ∈ ([[4, 0], [3, 255], [0, 0]] : List (List Byte)),
      (holding Command.probe.code p (oneRecord (field .bid))).Ready .probe ⟨0x14, p⟩ true)
    ∧ 1023 < (4 : Byte).toNat * 256 + (0 : Byte).toNat
    ∧ (3 : Byte).toNat * 256 + (255 : Byte).toNat ≤ 1023
    ∧ ((holding 0x14 [3, 255] (oneRecord (field .bid))).slot ((3 : Byte).toNat * 256 + (255 : Byte).toNat)).state = .free
    ∧ ((holding 0x14 [0, 0] (oneRecord (field .bid))).slot ((0 : Byte).toNat * 256 + (0 : Byte).toNat)).state ≠ .free :=
  ⟨fun p _ => ready_oneRecord .probe p _, by decide, by decide, by decide, by decide⟩

/-- Refused by its first check and by its last; accepted. -/
theorem witness_BindCreatesRecord :
    let s := fun p => holding Command.bind.code p (oneRecord (field .bid))
    let low : List Byte := [0, 0, 0] ++ bindParams.drop 3
    let onto : List Byte := [0, 0, 1, 2, 0, 0, 1, 3] ++ bindParams.drop 8
    (∀ p ∈ [low, onto, bindParams], (s p).Ready .bind ⟨0x10, p⟩ true ∧ p.length = 25)
    ∧ firstRefusal (bindChecks (s low) low) = some .badArg
    ∧ firstRefusal (bindChecks (s onto) onto) = some .collide
    ∧ firstRefusal (bindChecks (s bindParams) bindParams) = none :=
  ⟨fun p h => ⟨ready_oneRecord .bind p _, by revert p; decide⟩, by decide +kernel, by decide +kernel, by decide +kernel⟩

/-- Slot 1024; a band with Hi below Lo; a slot not LIVE; slot 0. -/
theorem witness_AmendReplacesSettings :
    let s := fun p => holding Command.amend.code p (oneRecord (field .bid))
    let settings : List Byte := [2, 0, 0, 4, 1, 0, 0, 0, 0, 0, 0, 0, 100, 0, 0, 0, 0]
    let inverted : List Byte := [2, 0, 0, 4, 1, 0, 0, 0, 1, 0, 0, 0, 0, 0, 0, 0, 0]
    let checks := fun (p : List Byte) => ([(1023 < u16 p 0, .badArg)] : List (Bool × Result)) ++ settingsChecks p 2
      ++ ([(((s p).slot (u16 p 0)).state != .live, .notLive)] : List (Bool × Result))
    (∀ p ∈ [4 :: 0 :: settings, 0 :: 0 :: inverted, 3 :: 255 :: settings, 0 :: 0 :: settings],
      (s p).Ready .amend ⟨0x11, p⟩ true ∧ p.length = 19)
    ∧ firstRefusal (checks (4 :: 0 :: settings)) = some .badArg
    ∧ firstRefusal (checks (0 :: 0 :: inverted)) = some .badBand
    ∧ firstRefusal (checks (3 :: 255 :: settings)) = some .notLive
    ∧ firstRefusal (checks (0 :: 0 :: settings)) = none :=
  ⟨fun p h => ⟨ready_oneRecord .amend p _, by revert p; decide⟩, by decide, by decide, by decide, by decide⟩

/-- A state with a message held has the chains it had. -/
theorem holding_chainsSound {s : State} (h : s.ChainsSound) (code : Byte) (p : List Byte) : (holding code p s).ChainsSound :=
  { nodup := h.nodup, members := h.members, four := h.four }

theorem held_chainsSound (kind : Kind) (code : Byte) (p : List Byte) :
    (holding code p (oneRecord (field kind))).ChainsSound := holding_chainsSound (oneRecord_chainsSound rfl) code p

/-- Slots 1024, 1023 (not LIVE) and 0. -/
theorem witness_RetireWithdrawsRecord :
    (∀ p : List Byte, (holding Command.retire.code p (oneRecord (field .bid))).ChainsSound
      ∧ (holding Command.retire.code p (oneRecord (field .bid))).Ready .retire ⟨0x12, p⟩ true)
    ∧ 1023 < (4 : Byte).toNat * 256 + (0 : Byte).toNat
    ∧ ((oneRecord (field .bid)).slot ((3 : Byte).toNat * 256 + (255 : Byte).toNat)).state ≠ .live
    ∧ ((oneRecord (field .bid)).slot ((0 : Byte).toNat * 256 + (0 : Byte).toNat)).state = .live :=
  ⟨fun p => ⟨held_chainsSound .bid _ p, ready_oneRecord .retire p _⟩, by decide, by decide, by decide⟩

/-- TICK: instrument 0, a derived kind, a good key, a key with no record.  QTICK: a bad first kind, the last kind and four values. -/
theorem witness_TickAndQtickEvaluate :
    let tickChecks := fun (n : Nat) (kindByte : Byte) =>
      ([(n = 0 ∨ 1048575 < n, .badArg), (6 < kindByte.toNat, .badArg), (3 < kindByte.toNat, .derived)] : List (Bool × Result))
    let qtickChecks := fun (p : List Byte) =>
      ([(u24 p 0 = 0 ∨ 1048575 < u24 p 0, .badArg), (6 < u8 p 3, .badArg), (4 < u8 p 3 + u8 p 4, .badArg)] : List (Bool × Result))
    let one : List Byte := [0, 0, 1, 3, 1, 0, 0, 0, 5]
    let bad : List Byte := [0, 0, 1, 4, 1, 0, 0, 0, 5]
    (∀ p : List Byte, (holding Command.tick.code p (oneRecord (field .bid))).Ready .tick ⟨0x20, p⟩ true)
    ∧ (firstRefusal (tickChecks (number24 0 0 0) 0) = some .badArg ∧ firstRefusal (tickChecks (number24 0 0 1) 4) = some .derived
      ∧ firstRefusal (tickChecks (number24 0x0F 0xFF 0xFF) 3) = none ∧ (3 : Byte).toNat = Kind.size.number
      ∧ (holding 0x20 [0x0F, 0xFF, 0xFF, 3, 0, 0, 0, 1] (oneRecord (field .bid))).mirrors (number24 0x0F 0xFF 0xFF) .size = [])
    ∧ (∀ p ∈ [one, bad], (holding Command.qtick.code p (oneRecord (field .bid))).Ready .qtick ⟨0x21, p⟩ true
      ∧ p.length ∈ [9, 13, 17, 21] ∧ u8 p 4 = (p.length - 5) / 4)
    ∧ firstRefusal (qtickChecks bad) = some .badArg ∧ firstRefusal (qtickChecks one) = none
    ∧ ([(Kind.size, (5 : Int))].length = u8 one 4 ∧ Kind.size.number = u8 one 3 + 0 ∧ (5 : Int) = s32 one (5 + 4 * 0)) :=
  ⟨fun p => ready_oneRecord .tick p _, by decide, fun p h => ⟨ready_oneRecord .qtick p _, by revert p; decide⟩,
    by decide, by decide, by decide⟩

/-- The range of a tick's value. -/
theorem witness_GuardFollowsTable : (-2147483648 : Int) ≤ -2147483648 ∧ (-2147483648 : Int) ≤ 2147483647 := by decide

/-- 60 against 50 with filter limit 5. -/
theorem witness_HeldTickStoresPrint :
    let s := holding Command.tick.code [0, 0, 1, 0, 0, 0, 0, 60] (oneRecord (field .bid))
    s.ChainsSound ∧ s.Ready .tick ⟨0x20, [0, 0, 1, 0, 0, 0, 0, 60]⟩ true
    ∧ 1 ≤ number24 0 0 1 ∧ number24 0 0 1 ≤ 1048575 ∧ (0 : Byte).toNat = Kind.bid.number ∧ Kind.bid.number ≤ 3
    ∧ s.mirrors (number24 0 0 1) .bid = 0 :: []
    ∧ guardVerdict (s.slot 0) (clamped .bid (signed32 0 0 0 60)) = .held ∧ (s.slot 0).holdCount ≤ 3 :=
  ⟨held_chainsSound .bid _ _, ready_oneRecord .tick _ _, by decide, by decide, by decide, by decide, by decide, by decide,
    by decide⟩

/-- 55 against 50 with filter limit 5: the largest difference accepted. -/
theorem witness_AcceptedTickSetsMirrors :
    let s := holding Command.tick.code [0, 0, 1, 0, 0, 0, 0, 55] (oneRecord (field .bid))
    s.ChainsSound ∧ s.Ready .tick ⟨0x20, [0, 0, 1, 0, 0, 0, 0, 55]⟩ true
    ∧ 1 ≤ number24 0 0 1 ∧ number24 0 0 1 ≤ 1048575 ∧ (0 : Byte).toNat = Kind.bid.number ∧ Kind.bid.number ≤ 3
    ∧ Kind.bid ≠ .last ∧ s.mirrors (number24 0 0 1) .bid = 0 :: []
    ∧ guardVerdict (s.slot 0) (clamped .bid (signed32 0 0 0 55)) ≠ .held :=
  ⟨held_chainsSound .bid _ _, ready_oneRecord .tick _ _, by decide, by decide, by decide, by decide, by decide, by decide,
    by decide⟩

/-- With a LAST lead, and without one but with a HIGH record. -/
theorem witness_LastValueFansOut :
    let p : List Byte := [0, 0, 1, 2, 0, 0, 0, 55]
    let s := fun kind => holding Command.tick.code p (oneRecord (field kind))
    (∀ kind, (s kind).ChainsSound ∧ (s kind).Ready .tick ⟨0x20, p⟩ true)
    ∧ (1 ≤ number24 0 0 1 ∧ number24 0 0 1 ≤ 1048575 ∧ (2 : Byte).toNat = 2)
    ∧ ((s .last).lead (number24 0 0 1) .last = some 0
      ∧ TickOutcome.accepted = guardVerdict ((s .last).slot 0) (clamped .last (signed32 0 0 0 55))
      ∧ Direction.up = changeClass ((s .last).slot 0).current (clamped .last (signed32 0 0 0 55)))
    ∧ ((s .high).lead (number24 0 0 1) .last = none ∧ (s .high).mirrors (number24 0 0 1) .high ≠ []) :=
  ⟨fun kind => ⟨held_chainsSound kind _ _, ready_oneRecord .tick _ _⟩, by decide, by decide, by decide⟩

/-- Instrument 1,048,576 and 1,048,575, the present flag 2 and 1. -/
theorem witness_ReferAndExtremesSetAfresh :
    (∀ p : List Byte, (holding Command.refer.code p (oneRecord (field .net))).ChainsSound
      ∧ (holding Command.refer.code p (oneRecord (field .net))).Ready .refer ⟨0x22, p⟩ true
      ∧ (holding Command.extremesClear.code p (oneRecord (field .high))).ChainsSound
      ∧ (holding Command.extremesClear.code p (oneRecord (field .high))).Ready .extremesClear ⟨0x23, p⟩ true)
    ∧ 1048575 < number24 0x10 0 0 ∧ 1 < (2 : Byte).toNat
    ∧ 1 ≤ number24 0x0F 0xFF 0xFF ∧ number24 0x0F 0xFF 0xFF ≤ 1048575 ∧ (1 : Byte).toNat ≤ 1 ∧ 1 ≤ number24 0 0 1 :=
  ⟨fun p => ⟨held_chainsSound .net _ p, ready_oneRecord .refer p _, held_chainsSound .high _ p,
    ready_oneRecord .extremesClear p _⟩, by decide, by decide, by decide, by decide, by decide, by decide⟩

theorem witness_StaleMarksInstrument :
    (∀ p : List Byte, (holding Command.stale.code p (oneRecord (field .bid))).ChainsSound
      ∧ (holding Command.stale.code p (oneRecord (field .bid))).Ready .stale ⟨0x24, p⟩ true)
    ∧ 1048575 < number24 0x10 0 0 ∧ 1 ≤ number24 0 0 1 ∧ number24 0x0F 0xFF 0xFF ≤ 1048575 :=
  ⟨fun p => ⟨held_chainsSound .bid _ p, ready_oneRecord .stale p _⟩, by decide, by decide, by decide⟩

/-- Counts 0 and 9; 1 and 8. -/
theorem witness_AlertsRemovesOldest :
    (∀ n : Byte, (holding Command.alerts.code [n] running).Ready .alerts ⟨0x25, [n]⟩ true)
    ∧ (0 : Byte).toNat = 0 ∧ 8 < (9 : Byte).toNat ∧ 1 ≤ (1 : Byte).toNat ∧ (8 : Byte).toNat ≤ 8 :=
  ⟨fun n => ready_running .alerts [n], by decide, by decide, by decide, by decide⟩

/-- A rectangle that just fits its page, one that does not, and a panel already open. -/
theorem witness_PanelOpenSetsRectangle :
    let checks := fun (s : State) (p page row col height width bankByte : Byte) =>
      ([(31 < p.toNat, .badArg), (3 < page.toNat, .badArg), (height.toNat = 0 ∨ 50 < height.toNat, .badArg),
        (width.toNat = 0 ∨ 132 < width.toNat, .badArg), (1 < bankByte.toNat, .badArg),
        (50 < row.toNat + height.toNat ∨ 132 < col.toNat + width.toNat, .outside), ((s.panel p.toNat).isSome, .inUse)]
        : List (Bool × Result))
    (∀ p : List Byte, (holding Command.panelOpen.code p (oneRecord (field .bid))).Ready .panelOpen ⟨0x30, p⟩ true)
    ∧ firstRefusal (checks (oneRecord (field .bid)) 31 3 30 92 20 40 1) = none
    ∧ firstRefusal (checks (oneRecord (field .bid)) 32 3 30 92 20 40 1) = some .badArg
    ∧ firstRefusal (checks (oneRecord (field .bid)) 31 3 31 92 20 40 1) = some .outside
    ∧ firstRefusal (checks (oneRecord (field .bid)) 0 3 30 92 20 40 1) = some .inUse :=
  ⟨fun p => ready_oneRecord .panelOpen p _, by decide, by decide, by decide, by decide⟩

/-- Panels 32, 31 (CLOSED) and 0. -/
theorem witness_PanelCloseRetiresRecords :
    (∀ p : Byte, (holding Command.panelClose.code [p] (oneRecord (field .bid))).Ready .panelClose ⟨0x31, [p]⟩ true)
    ∧ 31 < (32 : Byte).toNat ∧ (31 : Byte).toNat ≤ 31 ∧ (oneRecord (field .bid)).panel (31 : Byte).toNat = none
    ∧ (oneRecord (field .bid)).panel (0 : Byte).toNat ≠ none :=
  ⟨fun p => ready_oneRecord .panelClose [p] _, by decide, by decide, by decide, by decide⟩

/-- Panel 0 FROZEN, its record waiting with its due flag set. -/
def frozenRecord : State :=
  (oneRecord { field .bid with due := true }).setPanel 0 (some { window with frozen := true })

/-- Panels 32, 31 (CLOSED), 0 OPEN and 0 FROZEN. -/
theorem witness_FreezeDefersAndThawResumes :
    (∀ p : Byte, (holding Command.panelFreeze.code [p] (oneRecord (field .bid))).Ready .panelFreeze ⟨0x32, [p]⟩ true
      ∧ (holding Command.panelFreeze.code [p] frozenRecord).Ready .panelFreeze ⟨0x32, [p]⟩ true
      ∧ (holding Command.panelThaw.code [p] (oneRecord (field .bid))).Ready .panelThaw ⟨0x33, [p]⟩ true
      ∧ (holding Command.panelThaw.code [p] frozenRecord).Ready .panelThaw ⟨0x33, [p]⟩ true)
    ∧ 31 < (32 : Byte).toNat ∧ frozenRecord.panel (31 : Byte).toNat = none
    ∧ (oneRecord (field .bid)).panel (0 : Byte).toNat = some window ∧ window.frozen = false
    ∧ frozenRecord.panel (0 : Byte).toNat = some { window with frozen := true } :=
  ⟨fun p => ⟨ready_oneRecord .panelFreeze [p] _, ready_holding .panelFreeze [p] rfl rfl rfl,
    ready_oneRecord .panelThaw [p] _, ready_holding .panelThaw [p] rfl rfl rfl⟩, by decide, by decide, by decide, by decide,
    by decide⟩

/-- A move that just fits, one that does not, one of an OPEN panel; a record whose panel is open. -/
theorem witness_PanelMoveVacatesAndClaims :
    let checks := fun (s : State) (p page row col : Byte) =>
      ([(31 < p.toNat, .badArg), (3 < page.toNat, .badArg), ((s.panel p.toNat).isNone, .noPanel),
        ((s.panel p.toNat).any (fun e => !e.frozen), .notFrozen),
        ((s.panel p.toNat).any (fun e => 50 < row.toNat + e.height ∨ 132 < col.toNat + e.width), .outside),
        ((allSlots.filter (fun k => s.isLive k && (s.slot k).panel == p.toNat)).any (fun k =>
          (spanCells page.toNat (row.toNat + (s.slot k).rowOffset) (col.toNat + (s.slot k).colOffset) (s.slot k).width).any
            (fun c => (s.claim c).any (fun j => s.isLive j && (s.slot j).panel != p.toNat))), .collide)]
        : List (Bool × Result))
    (∀ p : List Byte, (holding Command.panelMove.code p frozenRecord).Ready .panelMove ⟨0x34, p⟩ true
      ∧ (holding Command.panelMove.code p (oneRecord (field .bid))).Ready .panelMove ⟨0x34, p⟩ true)
    ∧ firstRefusal (checks frozenRecord 0 3 30 92) = none
    ∧ firstRefusal (checks frozenRecord 0 3 31 92) = some .outside
    ∧ firstRefusal (checks (oneRecord (field .bid)) 0 3 30 92) = some .notFrozen
    ∧ frozenRecord.panel (frozenRecord.slot 0).panel = some { window with frozen := true } :=
  ⟨fun p => ⟨ready_holding .panelMove p rfl rfl rfl, ready_oneRecord .panelMove p _⟩, by decide +kernel, by decide +kernel,
    by decide +kernel, by decide⟩

/-- Two writes left and one; the port free, and the port busy with the mark against MDC. -/
theorem witness_MdcWriteGrants :
    let w : CellWrite := { cell := 6867, char := 0x20, attr := 0 }
    let s : List CellWrite → State := fun ws => { oneRecord (field .bid) with mdc := .moving ⟨0x34, [0, 2, 5, 6]⟩ 0 0 0 ws [] }
    let t : List CellWrite → State := fun ws => { running with mdc := .writing ⟨0x51, []⟩ ws }
    let busy : State → State := fun u => { u with ptr := { u.ptr with painter := .clearing 1 [w] } }
    (∀ u ∈ [s [w, w], s [w], t [w, w], t [w]], u.resetLow = false ∧ u.ptrPending = none
      ∧ (busy u).ptrPending ≠ none ∧ (busy u).cst.mark = .mdc ∧ (busy u).resetLow = false
      ∧ ((busy u).setMark .ptr).cst.mark = .ptr)
    ∧ (s [w]).mdc = .moving ⟨0x34, [0, 2, 5, 6]⟩ 0 0 0 (w :: []) [] ∧ (t [w, w]).mdc = .writing ⟨0x51, []⟩ (w :: [w]) := by
  decide

/-- The last index and style, and each just beyond. -/
theorem witness_AttrSetReplacesEntry :
    let checks := fun (i fore back style : Byte) =>
      ([(63 < i.toNat, .badArg), (15 < fore.toNat, .badArg), (15 < back.toNat, .badArg), (15 < style.toNat, .badArg)]
        : List (Bool × Result))
    (∀ p : List Byte, (holding Command.attrSet.code p running).Ready .attrSet ⟨0x40, p⟩ true)
    ∧ firstRefusal (checks 63 15 15 15) = none ∧ firstRefusal (checks 64 15 15 15) = some .badArg
    ∧ firstRefusal (checks 63 15 15 16) = some .badArg :=
  ⟨fun p => ready_running .attrSet p, by decide, by decide, by decide⟩

theorem witness_SchemeCommandsMakeDue :
    let checks := fun (bankByte condition index : Byte) =>
      ([(1 < bankByte.toNat, .badArg), (15 < condition.toNat, .badArg), (63 < index.toNat, .badArg)] : List (Bool × Result))
    (∀ p : List Byte, (holding Command.schemeSet.code p (oneRecord (field .bid))).Ready .schemeSet ⟨0x41, p⟩ true)
    ∧ firstRefusal (checks 1 15 63) = none ∧ firstRefusal (checks 2 15 63) = some .badArg
    ∧ firstRefusal (checks 1 16 63) = some .badArg
    ∧ (holding Command.schemeSwap.code [] (oneRecord (field .bid))).Ready .schemeSwap ⟨0x42, []⟩ true :=
  ⟨fun p => ready_oneRecord .schemeSet p _, by decide, by decide, by decide, ready_oneRecord .schemeSwap [] _⟩

/-- The last cell of a page and the panel form; the target bytes 254 and 31; a start outside the panel. -/
theorem witness_TextAndFillListCells :
    let text := fun (p : List Byte) => targetChecks (oneRecord (field .bid)) (u8 p 0) (u8 p 1) (u8 p 2) (u8 p 3)
      ++ ([(63 < u8 p 4, .badArg)] : List (Bool × Result))
    let fill := fun (target page row col height width attr : Byte) =>
      targetChecks (oneRecord (field .bid)) target.toNat page.toNat row.toNat col.toNat
        ++ ([(height.toNat = 0, .badArg), (width.toNat = 0, .badArg), (63 < attr.toNat, .badArg)] : List (Bool × Result))
    (∀ p : List Byte, (holding Command.text.code p (oneRecord (field .bid))).Ready .text ⟨0x50, p⟩ true
      ∧ (holding Command.fill.code p (oneRecord (field .bid))).Ready .fill ⟨0x51, p⟩ true)
    ∧ (6 ≤ ([255, 3, 49, 131, 63, 0x41] : List Byte).length ∧ ([255, 3, 49, 131, 63, 0x41] : List Byte).length ≤ 59)
    ∧ firstRefusal (text [255, 3, 49, 131, 63, 0x41]) = none ∧ firstRefusal (text [254, 3, 49, 131, 63, 0x41]) = some .badArg
    ∧ firstRefusal (text [31, 0, 0, 0, 63, 0x41]) = some .noPanel ∧ firstRefusal (text [0, 0, 20, 0, 63, 0x41]) = some .badArg
    ∧ firstRefusal (fill 0 0 19 39 1 1 63) = none ∧ firstRefusal (fill 0 0 19 39 0 1 63) = some .badArg
    ∧ firstRefusal (fill 0 0 19 39 1 1 64) = some .badArg :=
  ⟨fun p => ⟨ready_oneRecord .text p _, ready_oneRecord .fill p _⟩, by decide, by decide, by decide, by decide, by decide,
    by decide, by decide, by decide⟩

/-- Codes 127 and 192 refused, 128 and 191 loaded. -/
theorem witness_DisplayCommandsSetPending :
    (∀ b : Byte, (holding Command.showPage.code [b] running).Ready .showPage ⟨0x60, [b]⟩ true
      ∧ (holding Command.pattern.code [b] running).Ready .pattern ⟨0x61, [b]⟩ true
      ∧ (holding Command.glyphLoad.code (b :: List.replicate 14 0xFF) running).Ready .glyphLoad
        ⟨0x62, b :: List.replicate 14 0xFF⟩ true)
    ∧ (List.replicate 14 (0xFF : Byte)).length = 14 ∧ (127 : Byte).toNat < 128 ∧ 191 < (192 : Byte).toNat
    ∧ 128 ≤ (128 : Byte).toNat ∧ (191 : Byte).toNat ≤ 191 :=
  ⟨fun b => ⟨ready_running .showPage [b], ready_running .pattern [b], ready_running .glyphLoad _⟩, by decide, by decide,
    by decide, by decide, by decide⟩

/-- The first frame; the next after row 49; rows 0 and 49 still to be read. -/
theorem witness_FrameStartTakesPending :
    let at_ : Nat → State := fun row => { running with dou := { running.dou with nextRow := some row } }
    running.resetLow = false ∧ running.dou.blink ≤ 31 ∧ (∀ row, running.dou.nextRow = some row → 50 ≤ row)
    ∧ (∀ row, (at_ 50).dou.nextRow = some row → 50 ≤ row)
    ∧ (at_ 0).dou.nextRow = some 0 ∧ (at_ 49).dou.nextRow = some 49 ∧ 49 < 50 :=
  ⟨rfl, by decide, nofun, by rintro _ ⟨⟩; decide, rfl, rfl, by decide⟩

/-- The first row of a frame and the last. -/
theorem witness_RowReadDrawsCells :
    let s : State := after .frameStart running
    s.resetLow = false ∧ s.dou.nextRow = some 0
    ∧ ({ s with dou := { s.dou with nextRow := some 49 } } : State).dou.nextRow = some 49 ∧ 49 < 50
    ∧ (0x20 : Byte).toNat ≤ 0x20 ∧ 0xE0 ≤ (0xE0 : Byte).toNat ∧ 0x80 ≤ (0x80 : Byte).toNat ∧ (0xBF : Byte).toNat ≤ 0xBF := by
  decide

theorem witness_StatusReportsThenClears :
    (holding Command.status.code [0xFF] running).Ready .status ⟨0x70, [0xFF]⟩ true := ready_running .status [0xFF]

theorem witness_ConfigStoresSettings :
    (holding Command.config.code [0, 0, 4, 0, 0, 0, 2] running).Ready .config ⟨0x71, [0, 0, 4, 0, 0, 0, 2]⟩ true
    ∧ (holding Command.config.code [0, 0, 4, 0, 0, 0, 1] running).Ready .config ⟨0x71, [0, 0, 4, 0, 0, 0, 1]⟩ true :=
  ⟨ready_running .config _, ready_running .config _⟩

theorem witness_SyncWaitsForFence :
    (holding Command.sync.code [] waiting).Ready .sync ⟨0x72, []⟩ true
    ∧ (after .sync (holding 0x72 [] waiting)).mdc = .syncing ⟨0x72, []⟩ false [0]
    ∧ ∀ m inHand slots, running.mdc ≠ .syncing m inHand slots :=
  ⟨ready_holding .sync [] rfl rfl rfl, by decide, by simp [running, State.reset]⟩

/-- A LIVE record at the head of the queue; a RETIRING one that claims cells, and one that claims none. -/
theorem witness_PainterTakesHeadJob :
    let gone : Record := { field .bid with state := .retiring, queued := true }
    let s : State := { oneRecord gone with ptr := { running.ptr with queue := [0] } }
    let bare : State := { s with ftb := { s.ftb with claims := [] } }
    let held := fun (u : State) => (spanCells (u.slot 0).page (u.slot 0).row (u.slot 0).col (u.slot 0).width).filter
      (fun c => u.claim c == some 0)
    (waiting.resetLow = false ∧ waiting.ptr.painter = .idle ∧ waiting.ptr.queue = 0 :: []
      ∧ (waiting.slot 0).state = .live ∧ waiting.panel (waiting.slot 0).panel = some window ∧ (waiting.slot 0).newValue = false)
    ∧ (s.resetLow = false ∧ s.ptr.painter = .idle ∧ s.ptr.queue = 0 :: [] ∧ (s.slot 0).state = .retiring ∧ held s ≠ [])
    ∧ ((bare.slot 0).state = .retiring ∧ bare.ptr.queue = 0 :: [] ∧ held bare = []) := by decide

/-- Two writes left and one; the port free, and the port busy with the mark against PTR. -/
theorem witness_PainterWriteGrants :
    let w : CellWrite := { cell := 6867, char := 0x20, attr := 0 }
    let sn := (field .bid).snapshot
    let s : Painter → State := fun p => { oneRecord (field .bid) with ptr := { queue := [], painter := p } }
    let busy : State → State := fun u => { u with mdc := .writing ⟨0x51, []⟩ [w], cst := { u.cst with mark := .ptr } }
    (∀ p ∈ [Painter.painting 0 sn .a [0x20, 0x20] [w, w], .painting 0 sn .a [0x20, 0x20] [w], .clearing 0 [w, w],
        .clearing 0 [w]],
      (s p).resetLow = false ∧ (s p).mdcPending = none ∧ (busy (s p)).mdcPending ≠ none ∧ (busy (s p)).cst.mark = .ptr
      ∧ (busy (s p)).resetLow = false)
    ∧ (s (.painting 0 sn .a [0x20, 0x20] [w])).ptr.painter = .painting 0 sn .a [0x20, 0x20] (w :: [])
    ∧ (s (.clearing 0 [w])).ptr.painter = .clearing 0 (w :: []) := by decide

/-- Nothing owed; one frame owed; the queue above the threshold and 7 or 8 frames owed; within a PANEL_MOVE. -/
theorem witness_SweepAgesHighlights :
    let s : Nat → Nat → State := fun owed threshold =>
      { waiting with agu := { waiting.agu with owed := owed, threshold := threshold } }
    waiting.resetLow = false ∧ ¬ 0 < (s 0 64).agu.owed
    ∧ (0 < (s 1 1).agu.owed ∧ (s 1 1).ptr.queue.length ≤ (s 1 1).agu.threshold)
    ∧ (¬ (s 7 0).ptr.queue.length ≤ (s 7 0).agu.threshold ∧ (s 7 0).agu.owed ≠ 8)
    ∧ (¬ (s 8 0).ptr.queue.length ≤ (s 8 0).agu.threshold ∧ (s 8 0).agu.owed = 8)
    ∧ ({ s 8 0 with mdc := .moving ⟨0x34, []⟩ 0 0 0 [] [] } : State).mdc = .moving ⟨0x34, []⟩ 0 0 0 [] [] := by decide

/-- Table 5-6, case 2: the first candidate does not fit and the second does; case 11: none fits. -/
theorem witness_FormattedStringFillsSpan :
    let f : Format := { mode := .dec, source := 4, display := 3, signAlways := false, fillZero := false, degrade := true
                        digits := false }
    let g : Format := { mode := .dec, source := 0, display := 0, signAlways := true, fillZero := false, degrade := true
                        digits := false }
    let size := fun (d : Form) => d.sign.length + d.whole.length + d.tail.length
    candidates 1234567 f = ((candidates 1234567 f).take 1) ++ ⟨[], [0x31, 0x32, 0x33], [0x2E, 0x34, 0x36]⟩
      :: (candidates 1234567 f).drop 2
    ∧ (∀ d ∈ (candidates 1234567 f).take 1, 6 < size d) ∧ size ⟨[], [0x31, 0x32, 0x33], [0x2E, 0x34, 0x36]⟩ ≤ 6
    ∧ ∀ d ∈ candidates 5 g, 1 < size d := by decide

theorem witness_CandidateFormsShowValue :
    (0 : Nat) < 1 ∧ (9999999999 : Nat) < 10000000000 ∧ (0 : Nat) < 10000000000
    ∧ (Settings.empty.format).mode = .dec ∧ ({ Settings.empty.format with mode := .frac }).mode = .frac
    ∧ ({ Settings.empty.format with mode := .count }).mode = .count := by decide

/-- The sound state with a paint job to take, and the step that takes it: a witness for every statement that takes `Sound`,
`TablesCanonical` or `LinkSound`. -/
theorem witness_SoundSteps :
    waiting.Sound ∧ step waiting = .next (after .painterTake waiting)
    ∧ exec .painterTake waiting = .next { after .painterTake waiting with pending := waiting.pending } ∧ Instr.painterTake ≠ .powerOnReset :=
  ⟨waiting_sound, rfl, rfl, by decide⟩

theorem witness_TablesStayCanonical : waiting.TablesCanonical := waiting_sound.tables

theorem witness_LinkStaysSound : waiting.LinkSound := waiting_sound.link

end Sys2Proof.Tests
end

section
/-!
PROOFS, first layer. What the operations on records leave unchanged, the one place where a message command meets its body, and
what the body of a command may do to the link side.
-/

namespace Sys2Proof.Machine

/-! ## Operations on records leave the rest of the part alone -/

/-- `t` differs from `s` at most in FTB, the alert list, the field queue and the sticky flags: what evaluating, binding, retiring
and making due may touch. -/
def State.RecordsOnly (s t : State) : Prop :=
  t = { s with
    ftb := t.ftb, alerts := t.alerts, ptr := { s.ptr with queue := t.ptr.queue }
    stu := { s.stu with sticky := t.stu.sticky } }

namespace State.RecordsOnly

theorem refl (s : State) : s.RecordsOnly s := rfl

theorem trans {s t u : State} (hst : s.RecordsOnly t) (htu : t.RecordsOnly u) : s.RecordsOnly u := by
  unfold State.RecordsOnly at *
  rw [htu, hst]

theorem lki {s t : State} (h : s.RecordsOnly t) : t.lki = s.lki := by
  rw [show t = _ from h]

theorem mdc {s t : State} (h : s.RecordsOnly t) : t.mdc = s.mdc := by
  rw [show t = _ from h]

/-- A fold whose every step changes records only changes records only; `state` finds the state in what is folded. -/
theorem foldl_of {σ β : Type} (state : σ → State) {f : σ → β → σ} (h : ∀ a b, (state a).RecordsOnly (state (f a b)))
    (l : List β) (a : σ) : (state a).RecordsOnly (state (l.foldl f a)) := by
  induction l generalizing a with
  | nil => exact refl _
  | cons b l ih => exact (h a b).trans (ih _)

theorem foldl {β : Type} {f : State → β → State} (h : ∀ (s : State) b, s.RecordsOnly (f s b)) (l : List β) (s : State) :
    s.RecordsOnly (l.foldl f s) := foldl_of (fun s => s) h l s

end State.RecordsOnly

section
variable (s : State) (k : Nat)

theorem State.updSlot_recordsOnly (f : Record → Record) : s.RecordsOnly (s.updSlot k f) := rfl

theorem State.setClaim_recordsOnly (owner : Option Nat) : s.RecordsOnly (s.setClaim k owner) := rfl

theorem State.becomeDue_recordsOnly : s.RecordsOnly (s.becomeDue k) := by
  unfold State.becomeDue
  split
  · rfl
  · split <;> rfl

theorem State.joinGroup_recordsOnly (due : List Nat) : s.RecordsOnly (s.joinGroup due) :=
  .foldl State.becomeDue_recordsOnly _ _

theorem State.claimAll_recordsOnly (cells : List Nat) : s.RecordsOnly (s.claimAll k cells) :=
  .foldl (fun t c => t.setClaim_recordsOnly c (some k)) _ _

/-! ### Ticks (chapter 4) -/

theorem State.enterAlert_recordsOnly (e : AlertEntry) : s.RecordsOnly (s.enterAlert e) := by
  unfold State.enterAlert
  split
  · rfl
  · split <;> rfl

theorem State.evaluateBand_recordsOnly : s.RecordsOnly (s.evaluateBand k) := by
  simp only [State.evaluateBand]
  split
  · exact .trans (t := s.setSlot k _) rfl (State.enterAlert_recordsOnly _ _)
  · rfl

theorem State.applyValue_recordsOnly (v : Int) (d : Direction) : s.RecordsOnly (s.applyValue k v d) :=
  (s.updSlot_recordsOnly k _).trans (State.evaluateBand_recordsOnly _ k)

theorem TickAcc.freshen_recordsOnly (a : TickAcc) : a.state.RecordsOnly (a.freshen k).state := rfl

theorem fanNet_recordsOnly (v : Int) (a : TickAcc) : a.state.RecordsOnly (fanNet v a k).state := by
  simp only [fanNet]
  split
  · exact (a.state.updSlot_recordsOnly k _).trans (State.applyValue_recordsOnly _ k _ _)
  · exact (a.state.updSlot_recordsOnly k _).trans (TickAcc.freshen_recordsOnly k _)

theorem fanHigh_recordsOnly (v : Int) (a : TickAcc) : a.state.RecordsOnly (fanHigh v a k).state := by
  unfold fanHigh
  split
  · exact a.state.applyValue_recordsOnly k _ _
  · split
    · exact a.state.applyValue_recordsOnly k _ _
    · exact a.freshen_recordsOnly k

theorem fanLow_recordsOnly (v : Int) (a : TickAcc) : a.state.RecordsOnly (fanLow v a k).state := by
  unfold fanLow
  split
  · exact a.state.applyValue_recordsOnly k _ _
  · split
    · exact a.state.applyValue_recordsOnly k _ _
    · exact a.freshen_recordsOnly k

theorem fanOut_recordsOnly (instrument : Nat) (v : Int) (a : TickAcc) :
    a.state.RecordsOnly (fanOut s instrument v a).state :=
  ((State.RecordsOnly.foldl_of TickAcc.state (fun a k => fanNet_recordsOnly k v a) _ a).trans
    (.foldl_of TickAcc.state (fun a k => fanHigh_recordsOnly k v a) _ _)).trans
    (.foldl_of TickAcc.state (fun a k => fanLow_recordsOnly k v a) _ _)

theorem State.clearGuard_recordsOnly (mirrors : List Nat) : s.RecordsOnly (s.clearGuard mirrors) := by
  have marks (t : State) := State.RecordsOnly.foldl
    (fun t k => t.updSlot_recordsOnly k (fun r => { r with suspect := false })) mirrors t
  cases mirrors with
  | nil => exact marks s
  | cons lead others => exact (s.updSlot_recordsOnly lead _).trans (marks _)

theorem State.holdPrint_recordsOnly (lead : Nat) (mirrors : List Nat) (v : Int) :
    s.RecordsOnly (s.holdPrint lead mirrors v) :=
  ((s.updSlot_recordsOnly lead _).trans (.foldl (fun t k => t.updSlot_recordsOnly k _) mirrors _)).trans rfl

theorem acceptTick_recordsOnly (a : TickAcc) (instrument : Nat) (kind : Kind) (v : Int) (d : Direction) :
    a.state.RecordsOnly (acceptTick a instrument kind v d).state := by
  simp only [acceptTick]
  have applied := (a.state.clearGuard_recordsOnly (a.state.mirrors instrument kind)).trans
    (.foldl_of TickAcc.state (f := fun a k => a.apply k v d) (fun a k => a.state.applyValue_recordsOnly k v d)
      (a.state.mirrors instrument kind) { a with state := a.state.clearGuard (a.state.mirrors instrument kind) })
  split
  · exact applied.trans (fanOut_recordsOnly _ _ _ _)
  · exact applied

theorem evaluateTick_recordsOnly (a : TickAcc) (instrument : Nat) (kind : Kind) (value : Int) :
    a.state.RecordsOnly (evaluateTick a instrument kind value).2.state := by
  simp only [evaluateTick]
  split
  · split
    · exact acceptTick_recordsOnly { a with updated := 0 } _ _ _ _
    · exact .refl _
  · split
    · exact a.state.holdPrint_recordsOnly _ _ _
    · exact acceptTick_recordsOnly { a with updated := 0 } _ _ _ _

theorem evaluateTicks_recordsOnly (instrument : Nat) (values : List (Kind × Int)) (a : TickAcc) (out : List Byte) :
    a.state.RecordsOnly (evaluateTicks instrument values a out).1.state := by
  induction values generalizing a out with
  | nil => exact .refl _
  | cons value rest ih => exact (evaluateTick_recordsOnly a instrument value.1 value.2).trans (ih _ _)

theorem State.referSlot_recordsOnly (reference : Option Int) : s.RecordsOnly (State.referSlot reference s k) :=
  (s.updSlot_recordsOnly k _).trans (State.evaluateBand_recordsOnly _ k)

theorem State.restartSlot_recordsOnly (v : Option Int) : s.RecordsOnly (State.restartSlot v s k) :=
  (s.updSlot_recordsOnly k _).trans (State.evaluateBand_recordsOnly _ k)

/-! ### Binding, retiring, freezing and moving (chapters 3 and 6) -/

theorem bindApply_recordsOnly (b : Binding) : s.RecordsOnly (bindApply b s) := by
  simp only [bindApply]
  refine .trans (.trans ?_ (State.claimAll_recordsOnly _ b.slot b.span)) (State.becomeDue_recordsOnly _ b.slot)
  rfl

theorem amendApply_recordsOnly (settings : Settings) : s.RecordsOnly (amendApply k settings s) :=
  ((s.updSlot_recordsOnly k _).trans (State.evaluateBand_recordsOnly _ k)).trans (State.becomeDue_recordsOnly _ k)

theorem State.unlink_recordsOnly : s.RecordsOnly (s.unlink k) := by
  simp only [State.unlink]
  split
  · rfl
  · split
    · split <;> rfl
    · rfl

theorem State.retire_recordsOnly : s.RecordsOnly (s.retire k) := by
  simp only [State.retire]
  refine (s.unlink_recordsOnly k).trans ?_
  split <;> rfl

theorem State.defer_recordsOnly : s.RecordsOnly (s.defer k) := rfl

theorem State.resume_recordsOnly : s.RecordsOnly (s.resume k) := rfl

theorem State.reclaim_recordsOnly : s.RecordsOnly (s.reclaim k) := by
  unfold State.reclaim
  split
  · exact .refl _
  · exact ((s.updSlot_recordsOnly k _).trans (State.claimAll_recordsOnly _ k _)).trans (State.becomeDue_recordsOnly _ k)

end

/-! ### Updates that are more than records: LKI and MDC stay -/

section
variable (s : State) (k : Nat)

@[simp] theorem State.joinGroup_lki (due : List Nat) : (s.joinGroup due).lki = s.lki := (s.joinGroup_recordsOnly due).lki
@[simp] theorem State.joinGroup_mdc (due : List Nat) : (s.joinGroup due).mdc = s.mdc := (s.joinGroup_recordsOnly due).mdc
@[simp] theorem State.reclaim_lki : (s.reclaim k).lki = s.lki := (s.reclaim_recordsOnly k).lki

@[simp] theorem State.setScheme_lki (bank : Bank) (condition index : Nat) :
    (s.setScheme bank condition index).lki = s.lki := by cases bank <;> rfl

@[simp] theorem panelClose_lki (p : Nat) : (panelClose p s).lki = s.lki := by
  rw [panelClose, State.setPanel_lki]
  exact (State.RecordsOnly.foldl State.retire_recordsOnly _ s).lki

@[simp] theorem panelFreeze_lki (p : Nat) (e : Panel) : (panelFreeze p e s).lki = s.lki := by
  unfold panelFreeze
  split
  · rfl
  · exact (State.RecordsOnly.foldl State.defer_recordsOnly _ _).lki

@[simp] theorem panelThaw_lki (p : Nat) (e : Panel) : (panelThaw p e s).lki = s.lki := by
  unfold panelThaw
  split
  · exact (State.RecordsOnly.foldl State.resume_recordsOnly _ _).lki
  · rfl

theorem State.ageAll_lki_mdc : s.ageAll.lki = s.lki ∧ s.ageAll.mdc = s.mdc := by
  simp only [State.ageAll]
  have ages := State.RecordsOnly.foldl (fun t k => t.updSlot_recordsOnly k (fun r => r.aged s.agu.owed))
    (allSlots.filter (fun k => 0 < (s.slot k).age)) s
  exact ⟨ages.lki, ages.mdc⟩

end

/-! ## The commands and their bodies -/

/-- What a command does once its length is accepted. -/
def Command.body : Command → Message → State → Verdict
  | .bind => bindBody | .amend => amendBody | .retire => retireBody | .lookup => lookupBody | .probe => probeBody
  | .tick => tickBody | .qtick => qtickBody | .refer => referBody | .extremesClear => extremesClearBody | .stale => staleBody
  | .alerts => alertsBody | .panelOpen => panelOpenBody | .panelClose => panelCloseBody | .panelFreeze => panelFreezeBody
  | .panelThaw => panelThawBody | .panelMove => panelMoveBody | .attrSet => attrSetBody | .schemeSet => schemeSetBody
  | .schemeSwap => schemeSwapBody | .text => textBody | .fill => fillBody | .showPage => showBody | .pattern => patternBody
  | .glyphLoad => glyphLoadBody | .status => statusBody | .config => configBody | .sync => syncBody

/-- The step of a message command is `runCommand` with its body. -/
theorem exec_instr (c : Command) (s : State) : exec c.instr s = .next (runCommand c c.body s) := by
  cases c <;> rfl

/-- MDC may take a held item with this reply flag (R12). -/
theorem State.mayTake_iff (s : State) (reply : Bool) :
    s.mayTake reply = true ↔ s.resetLow = false ∧ s.mdc = .idle ∧ (reply = true → s.lki.replies.length < 4) := by
  cases reply <;> simp [State.mayTake, and_assoc]

/-! ## What a body may do to the link side -/

/-- A body leaves LKI as the take left it, but for CONFIG's reply gap; one that goes on leaves MDC BUSY or, with no write to wait
for, has ended its execution with OK. -/
inductive Verdict.KeepsLink (m : Message) (s : State) : Verdict → Prop
  | refuse (r : Result) : KeepsLink m s (.refuse r)
  | done {u : State} {data : List Byte} (lki : u.lki = s.lki) : KeepsLink m s (.done u data)
  | regap {u : State} {data : List Byte} (gap : Nat) (le : gap ≤ 255) (lki : u.lki = { s.lki with replyGap := gap }) :
    KeepsLink m s (.done u data)
  | busy {u : State} (lki : u.lki = s.lki) (mdc : u.mdc ≠ .idle) : KeepsLink m s (.goesOn u)
  | ended {v : State} (lki : v.lki = s.lki) : KeepsLink m s (.goesOn (v.endExecution m.code .ok []))

/-- A body that is one check and then more keeps the link when the rest does. -/
theorem Verdict.KeepsLink.check {m : Message} {s : State} {r : Result} {v : Verdict} {fails : Prop} [Decidable fails]
    (h : v.KeepsLink m s) : (if fails then Verdict.refuse r else v).KeepsLink m s := by
  split
  · exact .refuse r
  · exact h

/-- The treatment of the records still to be moved leaves LKI alone: MDC stays BUSY, or the execution ends (R120). -/
theorem moveNext_keepsLink (m : Message) (p cleared : Nat) (records : List Nat) {s t : State} (h : t.lki = s.lki) :
    (Verdict.goesOn (moveNext m p cleared records t)).KeepsLink m s := by
  induction records generalizing t with
  | nil => exact .ended h
  | cons k rest ih =>
    unfold moveNext
    split
    · exact ih ((t.reclaim_lki k).trans h)
    · exact .busy h Mdc.noConfusion

theorem startWriting_keepsLink (m : Message) (ws : List CellWrite) (s : State) : (startWriting m ws s).KeepsLink m s := by
  cases ws with
  | nil => exact .done rfl
  | cons w ws => exact .busy rfl Mdc.noConfusion

theorem Command.body_keepsLink (c : Command) (m : Message) (s : State) : (c.body m s).KeepsLink m s := by
  cases c with
  | bind =>
    simp only [Command.body, bindBody]
    split
    · exact .refuse _
    · exact .done (bindApply_recordsOnly s _).lki
  | amend =>
    simp only [Command.body, amendBody]
    split
    · exact .refuse _
    · exact .done (amendApply_recordsOnly s _ _).lki
  | retire =>
    refine .check ?_
    split
    · exact .done (s.retire_recordsOnly _).lki
    · exact .refuse _
  | lookup =>
    refine .check ?_
    split
    · exact .refuse _
    · split
      · exact .refuse _
      · exact .done rfl
  | probe =>
    refine .check ?_
    split <;> exact .done rfl
  | tick =>
    refine .check ?_
    split
    · exact .refuse _
    · exact .check (.done ((State.joinGroup_lki _ _).trans (evaluateTick_recordsOnly ⟨s, [], 0⟩ _ _ _).lki))
  | qtick =>
    exact .check (.check (.check (.done
      ((State.joinGroup_lki _ _).trans (evaluateTicks_recordsOnly _ _ ⟨s, [], 0⟩ _).lki))))
  | refer =>
    exact .check (.check (.done
      ((State.joinGroup_lki _ _).trans (State.RecordsOnly.foldl (fun t k => t.referSlot_recordsOnly k _) _ s).lki)))
  | extremesClear =>
    exact .check (.done
      ((State.joinGroup_lki _ _).trans (State.RecordsOnly.foldl (fun t k => t.restartSlot_recordsOnly k _) _ s).lki))
  | stale =>
    exact .check (.done
      ((State.joinGroup_lki _ _).trans (State.RecordsOnly.foldl (fun t k => t.updSlot_recordsOnly k _) _ s).lki))
  | alerts => exact .check (.done rfl)
  | panelOpen =>
    refine .check (.check (.check (.check ?_)))
    split
    · exact .refuse _
    · exact .check (.check (.done rfl))
  | panelClose => exact .check (.check (.done (panelClose_lki s _)))
  | panelFreeze =>
    refine .check ?_
    split
    · exact .refuse _
    · exact .done (panelFreeze_lki s _ _)
  | panelThaw =>
    refine .check ?_
    split
    · exact .refuse _
    · exact .done (panelThaw_lki s _ _)
  | panelMove =>
    simp only [Command.body, panelMoveBody]
    refine .check (.check ?_)
    split
    · exact .refuse _
    · refine .check (.check (.check ?_))
      exact moveNext_keepsLink m _ _ _ (s.setPanel_lki _ _)
  | attrSet => exact .check (.check (.check (.check (.done rfl))))
  | schemeSet =>
    simp only [Command.body, schemeSetBody]
    split
    · exact .refuse _
    · exact .check (.check (.done (by simp)))
  | schemeSwap => exact .done (State.joinGroup_lki _ _)
  | text =>
    simp only [Command.body, textBody]
    split
    · exact .refuse _
    · exact .check (.check (startWriting_keepsLink m _ s))
  | fill =>
    simp only [Command.body, fillBody]
    split
    · exact .refuse _
    · exact .check (.check (.check (startWriting_keepsLink m _ s)))
  | showPage => exact .check (.done rfl)
  | pattern => exact .check (.done rfl)
  | glyphLoad => exact .check (.done rfl)
  | status => exact .done rfl
  | config => exact .check (.regap (u8 m.params 4) (Nat.le_of_lt_succ (BitVec.isLt _)) rfl)
  | sync =>
    simp only [Command.body, syncBody]
    split
    · exact .done rfl
    · exact .busy rfl Mdc.noConfusion

end Sys2Proof.Machine
end

section
/-!
PROOFS, the Link Interface (chapter 1). What each of its operations does, said once; then the statements about the receiver,
address and data characters, breaks, assembly and the transmitter.
-/

namespace Sys2Proof.Machine

/-! ## What LKI's operations do -/

theorem rxStep_of_state {before next : RxState} {s : State} (hreset : s.resetLow = false) (hrx : s.lki.rx = before) :
    rxStep before next s = s.setRx next := by
  simp [rxStep, hreset, hrx]

theorem rxAfter_eq (stop : Bool) : rxAfter stop = if stop then .hunt else .awaitHigh := by
  cases stop <;> rfl

/-- The parity error of a character: `mark` is 1 for an address character (R1). -/
theorem parityErrorOf_eq (v : Byte) (mark parity : Bool) :
    parityErrorOf v mark parity = decide ((onesOf v + mark.toNat + parity.toNat) % 2 = 1) := by
  cases mark <;> cases parity <;> rfl

theorem execAddressCharacter_receives {s : State} (v : Byte) (parity stop : Bool) (hreset : s.resetLow = false)
    (hrx : s.lki.rx = .receive) :
    execAddressCharacter v parity stop s =
      .next ((s.setRx (rxAfter stop)).addressReceived v (parityErrorOf v true parity || framingErrorOf stop)) := by
  simp [execAddressCharacter, hreset, hrx]

theorem execDataCharacter_receives {s : State} (v : Byte) (parity stop : Bool) (hreset : s.resetLow = false)
    (hrx : s.lki.rx = .receive) :
    execDataCharacter v parity stop s =
      .next ((s.setRx (rxAfter stop)).dataReceived v (parityErrorOf v false parity) (framingErrorOf stop)) := by
  simp [execDataCharacter, hreset, hrx]

/-- The boundary test always leaves the assembler in WAIT_CODE; only a partly assembled message sets TRUNCATED (R4). -/
theorem State.boundaryTest_eq (s : State) :
    s.boundaryTest = { s with
      lki := { s.lki with assembler := .waitCode }
      stu := { s.stu with sticky := s.stu.sticky ||| (if s.lki.assembler.truncates then 0x10 else 0) } } := by
  unfold State.boundaryTest
  split
  · rfl
  · simp

/-- The newest entry alone is marked. -/
theorem markNewest_append (front : List InEntry) (e : InEntry) :
    markNewest (front ++ [e]) = front ++ [{ e with boundary := true }] := by
  induction front with
  | nil => rfl
  | cons x xs ih =>
    cases xs with
    | nil => rfl
    | cons y ys => exact congrArg (x :: ·) ih

/-- A boundary mark leaves the number of entries, and what every entry says of anything but the boundary. -/
theorem map_markNewest {α : Type} (f : InEntry → α) (hf : ∀ e, f { e with boundary := true } = f e) (es : List InEntry) :
    (markNewest es).map f = es.map f := by
  rcases List.eq_nil_or_concat es with rfl | ⟨front, e, rfl⟩
  · rfl
  · simp [markNewest_append, hf]

/-- The mark commutes with a change of the entries that leaves their boundary flags to it. -/
theorem markNewest_map (g : InEntry → InEntry) (hg : ∀ e, g { e with boundary := true } = { g e with boundary := true })
    (es : List InEntry) : (markNewest es).map g = markNewest (es.map g) := by
  rcases List.eq_nil_or_concat es with rfl | ⟨front, e, rfl⟩
  · rfl
  · simp [markNewest_append, hg]

/-- LKI after an address character that makes the selection state `sel`: replies cancelled at a change out of LOUD, the pending gap
cancelled, the boundary marked or, with nothing queued, the assembler in WAIT_CODE (R3 to R5). -/
def Lki.addressed (l : Lki) (sel : Selection) : Lki :=
  { l.select sel with
    gapPending := false
    inbound := markNewest (l.select sel).inbound
    assembler := if l.inbound.isEmpty then .waitCode else (l.select sel).assembler }

/-- Leaving LOUD cancels; no other change of the selection state does (R5). -/
theorem Lki.select_eq (l : Lki) (sel : Selection) :
    l.select sel = { (if l.selection = .loud ∧ sel ≠ .loud then l.cancelReplies else l) with selection := sel } := rfl

@[simp] theorem Assembler.truncates_clearReply (a : Assembler) : a.clearReply.truncates = a.truncates := by
  cases a <;> rfl

@[simp] theorem Assembler.clearReply_clearReply (a : Assembler) : a.clearReply.clearReply = a.clearReply := by
  cases a <;> rfl

@[simp] theorem Assembler.reply_clearReply (a : Assembler) : a.clearReply.reply = false := by
  cases a <;> rfl

@[simp] theorem HeldItem.clearReply_clearReply (h : HeldItem) : h.clearReply.clearReply = h.clearReply := by
  cases h <;> rfl

@[simp] theorem HeldItem.reply_clearReply (h : HeldItem) : h.clearReply.reply = false := by
  cases h <;> rfl

/-- What a change of the selection state leaves but for reply flags and replies owed (R3, R5). -/
theorem Lki.select_keeps (l : Lki) (sel : Selection) :
    (l.select sel).inbound.map (fun e => { e with reply := false }) = l.inbound.map (fun e => { e with reply := false })
    ∧ (l.select sel).assembler.clearReply = l.assembler.clearReply
    ∧ (l.select sel).held.map HeldItem.clearReply = l.held.map HeldItem.clearReply
    ∧ (l.select sel).rx = l.rx ∧ (l.select sel).tx = l.tx ∧ (l.select sel).replyHigh = l.replyHigh
    ∧ (l.select sel).replyGap = l.replyGap ∧ (l.select sel).unitAddress = l.unitAddress := by
  rw [Lki.select_eq]
  split
  · simp [Lki.cancelReplies, Function.comp_def]
  · simp

@[simp] theorem Lki.select_inbound_isEmpty (l : Lki) (sel : Selection) :
    (l.select sel).inbound.isEmpty = l.inbound.isEmpty := by
  rw [Lki.select_eq]
  split <;> simp [Lki.cancelReplies]

@[simp] theorem Lki.select_truncates (l : Lki) (sel : Selection) :
    (l.select sel).assembler.truncates = l.assembler.truncates := by
  rw [Lki.select_eq]
  split <;> simp [Lki.cancelReplies]

/-- What an address character does at its reception (R3, R4, R5). -/
theorem State.addressReceived_eq (s : State) (v : Byte) (damaged : Bool) :
    s.addressReceived v damaged = { s with
      lki := s.lki.addressed (if damaged then .deaf else selectionOf s.lki.unitAddress v)
      stu := { s.stu with
        sticky := s.stu.sticky ||| (if damaged then 0x02 else 0)
          ||| (if s.lki.inbound.isEmpty && s.lki.assembler.truncates then 0x10 else 0) } } := by
  simp only [State.addressReceived]
  generalize (if damaged then Selection.deaf else selectionOf s.lki.unitAddress v) = sel
  have raised : (if damaged then ({ s with lki := s.lki.select sel } : State).raise .line else { s with lki := s.lki.select sel })
      = { s with lki := s.lki.select sel
                 stu := { s.stu with sticky := s.stu.sticky ||| (if damaged then 0x02 else 0) } } := by
    cases damaged <;> simp [State.raise, StickyFlag.mask]
  rw [raised]
  by_cases hempty : s.lki.inbound.isEmpty = true
  · have hin : (s.lki.select sel).inbound = [] :=
      List.isEmpty_iff.1 ((s.lki.select_inbound_isEmpty sel).trans hempty)
    simp [State.boundaryTest_eq, Lki.addressed, hempty, hin, markNewest]
  · rw [Bool.not_eq_true] at hempty
    simp [Lki.addressed, hempty]

/-! ## The receiver and the characters it receives -/

/-- Settles O4: each move is a receiver step in the state it needs, and in SETTLE a fall finds none. -/
theorem receiverMoves : Obligations.ReceiverMoves := by
  intro s hreset
  refine ⟨fun h => ?_, fun h => ?_, fun h => ?_, fun h => ?_, fun h => ?_⟩
  · exact congrArg Host.Outcome.next (rxStep_of_state hreset h)
  · exact congrArg Host.Outcome.next (by simp [rxStep, h])
  · exact congrArg Host.Outcome.next (rxStep_of_state hreset h)
  · exact congrArg Host.Outcome.next (rxStep_of_state hreset h)
  · exact congrArg Host.Outcome.next (rxStep_of_state hreset h)

/-- Settles O5: everything is read off `State.addressReceived_eq`. -/
theorem addressCharacterSelects : Obligations.AddressCharacterSelects := by
  intro s v parity stop hreset hrx
  refine ⟨_, execAddressCharacter_receives v parity stop hreset hrx, ?_⟩
  rw [State.addressReceived_eq, parityErrorOf_eq, rxAfter_eq, framingErrorOf]
  generalize (if stop then RxState.hunt else RxState.awaitHigh) = rx
  simp only [State.setRx_lki_unitAddress]
  generalize hsel : (if (decide ((onesOf v + true.toNat + parity.toNat) % 2 = 1) || !stop) = true then Selection.deaf
    else selectionOf s.lki.unitAddress v) = sel
  obtain ⟨hinbound, hassembler, hheld, hrx', htx, hhigh, hgap, haddress⟩ := (s.setRx rx).lki.select_keeps sel
  refine ⟨hrx', hsel.symm, rfl, fun front e hfront => ⟨?_, ?_⟩, fun hempty => ⟨?_, ?_⟩, hheld, htx, hhigh, hgap, haddress, rfl⟩
  · rw [← markNewest_append]
    rw [State.setRx_lki_inbound, hfront] at hinbound
    exact (markNewest_map _ (fun _ => rfl) _).trans
      ((congrArg markNewest hinbound).trans (markNewest_map _ (fun _ => rfl) _).symm)
  · simpa [Lki.addressed, hfront] using hassembler
  · have hin := List.isEmpty_iff.1 (((s.setRx rx).lki.select_inbound_isEmpty sel).trans (List.isEmpty_iff.2 hempty))
    exact congrArg markNewest hin
  · simp [Lki.addressed, hempty]

/-- A change out of LOUD leaves no reply flag, and of the replies only the one begun (R5). -/
theorem Lki.addressed_cancels {l : Lki} {sel : Selection} (hloud : l.selection = .loud) (hsel : sel ≠ .loud) :
    (l.addressed sel).replies = l.begunReplies ∧ (∀ e ∈ (l.addressed sel).inbound, e.reply = false)
    ∧ (∀ h, (l.addressed sel).held = some h → h.reply = false) ∧ (l.addressed sel).assembler.reply = false
    ∧ (l.addressed sel).replyOwed = false := by
  have cancelled : l.select sel = { l.cancelReplies with selection := sel } := by rw [Lki.select_eq, if_pos ⟨hloud, hsel⟩]
  have flags : (l.addressed sel).inbound.map InEntry.reply = l.cancelReplies.inbound.map InEntry.reply := by
    rw [Lki.addressed, cancelled]
    exact map_markNewest _ (fun _ => rfl) _
  refine ⟨by simp [Lki.addressed, cancelled, Lki.cancelReplies], fun e he => ?_, ?_, ?_, ?_⟩
  · have hmem : e.reply ∈ l.cancelReplies.inbound.map InEntry.reply := flags ▸ List.mem_map_of_mem he
    rw [Lki.cancelReplies, List.map_map] at hmem
    obtain ⟨_, _, hfalse⟩ := List.mem_map.1 hmem
    exact hfalse.symm
  · simp [Lki.addressed, cancelled, Lki.cancelReplies]
  · simp only [Lki.addressed, cancelled]
    split
    · rfl
    · exact Assembler.reply_clearReply _
  · simp [Lki.addressed, cancelled, Lki.cancelReplies]

/-- Any other address character leaves replies and reply flags as they are (R5). -/
theorem Lki.addressed_keeps {l : Lki} {sel : Selection} (hstay : l.selection ≠ .loud ∨ sel = .loud) :
    (l.addressed sel).replies = l.replies ∧ (l.addressed sel).inbound.map InEntry.reply = l.inbound.map InEntry.reply
    ∧ (l.addressed sel).held = l.held ∧ (l.addressed sel).replyOwed = l.replyOwed
    ∧ ((l.addressed sel).assembler = l.assembler ∨ (l.addressed sel).assembler = .waitCode) := by
  have kept : l.select sel = { l with selection := sel } := by
    rw [Lki.select_eq, if_neg fun h => hstay.elim (· h.1) h.2]
  refine ⟨by simp [Lki.addressed, kept], by simp [Lki.addressed, kept, map_markNewest], by simp [Lki.addressed, kept],
    by simp [Lki.addressed, kept], ?_⟩
  simp only [Lki.addressed, kept]
  split <;> simp

/-- A break in AWAIT_HIGH or SETTLE acts on LKI alone (R18). -/
theorem execBreak_breaks {s : State} (hreset : s.resetLow = false) (hrx : s.lki.rx = .awaitHigh ∨ s.lki.rx = .settle) :
    execBreak s = .next { s with lki := s.lki.broken } := by
  rcases hrx with hrx | hrx <;> simp [execBreak, hreset, hrx]

/-- Settles O6: an address character either changes the state out of LOUD or not, and a break clears LKI. -/
theorem leavingLoudCancelsReplies : Obligations.LeavingLoudCancelsReplies := by
  refine ⟨fun s t v parity stop hreset hrx hexec => ?_, fun s t hreset hrx hexec => ?_⟩
  · obtain rfl := Host.Outcome.next.inj ((execAddressCharacter_receives v parity stop hreset hrx).symm.trans hexec)
    rw [State.addressReceived_eq]
    generalize (if (parityErrorOf v true parity || framingErrorOf stop) = true then Selection.deaf
      else selectionOf (s.setRx (rxAfter stop)).lki.unitAddress v) = sel
    have htx : ((s.setRx (rxAfter stop)).lki.addressed sel).tx = s.lki.tx := by
      obtain ⟨_, _, _, _, htx, _⟩ := (s.setRx (rxAfter stop)).lki.select_keeps sel
      exact htx
    refine ⟨fun hloud hsel => ?_, fun hstay => ?_⟩
    · obtain ⟨hreplies, hinbound, hheld, hassembler, howed⟩ :=
        Lki.addressed_cancels (l := (s.setRx (rxAfter stop)).lki) hloud hsel
      exact ⟨hreplies, htx, hinbound, hheld, hassembler, howed⟩
    · obtain ⟨hreplies, hinbound, hheld, howed, hassembler⟩ :=
        Lki.addressed_keeps (l := (s.setRx (rxAfter stop)).lki) hstay
      exact ⟨hreplies, htx, hinbound, hheld, howed, hassembler⟩
  · obtain rfl := Host.Outcome.next.inj ((execBreak_breaks hreset hrx).symm.trans hexec)
    exact ⟨rfl, rfl, rfl, rfl, rfl, fun bits hbits => by simp [Lki.broken, hbits]⟩

/-- Settles O8, by what the transmitter was doing. -/
theorem breakActsOnLinkAlone : Obligations.BreakActsOnLinkAlone := by
  intro s hreset hrx
  refine (execBreak_breaks hreset hrx).trans ?_
  cases htx : s.lki.tx <;> simp [Lki.broken, htx]

/-- Settles O7: the three clauses are the branches of `State.dataReceived`. -/
theorem dataCharacterQueued : Obligations.DataCharacterQueued := by
  intro s v parity stop hreset hrx
  have received := execDataCharacter_receives v parity stop hreset hrx
  rw [parityErrorOf_eq, rxAfter_eq, framingErrorOf] at received
  refine ⟨fun hdeaf => received.trans ?_, fun hdeaf hroom => ⟨received.trans ?_, ?_⟩, fun hdeaf hfull => received.trans ?_⟩
  · simp [State.dataReceived, hdeaf, State.setRx]
  · simp [State.dataReceived, hdeaf, hroom, State.setRx]
  · simpa using hroom
  · simp [State.dataReceived, hdeaf, Nat.not_lt.2 hfull, State.setRx, State.raise, StickyFlag.mask]

/-! ## The transmitter -/

/-- The transmitter is WAITING while it drives nothing, a reply is queued and the unit is LOUD (R16). -/
theorem Lki.transmitter_eq_waiting (l : Lki) :
    l.transmitter = .waiting ↔ l.tx = .released ∧ l.replies ≠ [] ∧ l.selection = .loud := by
  unfold Lki.transmitter
  split
  · next htx => cases l.replies <;> cases l.selection <;> simp [htx]
  · next htx => simpa using fun h => absurd h htx

/-- Settles O15: a reply begins only while the transmitter is WAITING. -/
theorem transmitterSendsHeadReply : Obligations.TransmitterSendsHeadReply := by
  intro s hreset
  refine ⟨fun chars rest high hreplies hloud htx => ?_, fun bits htx => ?_, fun htx => ?_, fun hout high => ?_⟩
  · have hwaiting := s.lki.transmitter_eq_waiting.2 ⟨htx, by simp [hreplies], hloud⟩
    change execReplyStart high s = _
    by_cases hgap : s.lki.replyGap ≤ high
    · simp [execReplyStart, hreplies, hreset, hwaiting, hgap]
    · simp [execReplyStart, hreplies, hreset, hwaiting, hgap]
  · change execReplyEnd s = _
    simp [execReplyEnd, htx, hreset]
  · change execReplyCutShort s = _
    simp [execReplyCutShort, htx, hreset]
  · have hwaiting : s.lki.transmitter ≠ .waiting := fun h => by
      obtain ⟨htx, hreplies, hloud⟩ := s.lki.transmitter_eq_waiting.1 h
      exact hout.elim (· hloud) (·.elim hreplies (· htx))
    change execReplyStart high s = _
    unfold execReplyStart
    split <;> simp [hwaiting]

/-! ## Assembly -/

/-- The state with the assembler, the held item and the sticky flags that `r`, what the take of an entry makes, gives it. -/
def State.afterEntry (s : State) (r : Assembler × Option HeldItem × Byte) : State :=
  { s with
    lki := { s.lki with held := r.2.1, assembler := r.1 }
    stu := { s.stu with sticky := s.stu.sticky ||| r.2.2 } }

theorem State.setAssembler_eq_afterEntry {s : State} (a : Assembler) (hheld : s.lki.held = none) :
    s.setAssembler a = s.afterEntry (a, none, 0) := by
  simp [State.setAssembler, State.afterEntry, hheld]

/-- A length byte that is damaged, carries the gap flag or is above 60 sends the assembler to SKIP (R9). -/
theorem assembled_waitLength_form {m : Partial} {e : InEntry} (h : (e.damaged || e.gap || decide (60 < e.value.toNat)) = true) :
    assembled (.waitLength m) e = (.skip, none, 0x08) := if_pos h

/-- Any other length byte is followed by as many parameters as it says (R8). -/
theorem assembled_waitLength {m : Partial} {e : InEntry}
    (h : (e.damaged || e.gap || decide (60 < e.value.toNat)) = false) :
    assembled (.waitLength m) e =
      (if e.value.toNat = 0 then .waitCheck { m with length := e.value.toNat, sum := m.sum + e.value }
        else .params { m with length := e.value.toNat, sum := m.sum + e.value }, none, 0) := by
  refine (if_neg (ne_true_of_eq_false h)).trans ?_
  by_cases hzero : e.value.toNat = 0 <;> simp [hzero]

/-- The end of a message at its check byte, with the check byte added (R8, R10). -/
theorem State.completeMessage_eq_afterEntry (s : State) (m : Partial) (e : InEntry) :
    s.completeMessage (m.add e) = s.afterEntry (assembled (.waitCheck m) e) := by
  simp only [State.completeMessage, Partial.damage, Partial.add, InEntry.damaged, assembled]
  by_cases hgap : (m.gapSeen || e.gap) = true
  · simp only [hgap, if_true]
    rfl
  · by_cases hline : (m.lineSeen || (e.parityError || e.framingError)) = true
    · simp only [hgap, hline, if_true, Bool.false_eq_true, if_false]
      rfl
    · by_cases hsum : m.sum + e.value = 0
      · simp [hgap, hline, hsum, State.afterEntry]
      · simp only [hgap, hline, hsum, Bool.false_eq_true, if_false, ne_eq, not_false_eq_true, if_true]
        rfl

/-- What the assembler does with an entry, nothing being held (R8 to R10). -/
theorem State.assemble_eq {s : State} (e : InEntry) (hheld : s.lki.held = none) :
    s.assemble e = s.afterEntry (assembled s.lki.assembler e) := by
  cases hassembler : s.lki.assembler with
  | waitCode =>
    simp only [State.assemble, hassembler]
    exact State.setAssembler_eq_afterEntry _ hheld
  | waitLength m =>
    simp only [State.assemble, hassembler]
    cases hform : e.damaged || e.gap || decide (60 < e.value.toNat) with
    | true =>
      rw [assembled_waitLength_form hform, if_pos rfl, State.setAssembler_eq_afterEntry _ hheld]
      simp [State.afterEntry, State.raise, StickyFlag.mask]
    | false =>
      rw [assembled_waitLength hform, if_neg Bool.false_ne_true, State.setAssembler_eq_afterEntry _ hheld]
  | params m =>
    simp only [State.assemble, hassembler]
    rw [State.setAssembler_eq_afterEntry _ hheld]
    simp [assembled, Partial.add, InEntry.damaged]
  | waitCheck m =>
    simp only [State.assemble, hassembler]
    exact s.completeMessage_eq_afterEntry m e
  | skip =>
    simp only [State.assemble, hassembler, assembled, State.afterEntry]
    rw [← hassembler, ← hheld]
    simp

/-- The take of the head entry, with the boundary test after an entry that carries the mark (R4, R8). -/
theorem execAssemblerTake_takes {s : State} {e : InEntry} {rest : List InEntry} (hreset : s.resetLow = false)
    (hheld : s.lki.held = none) (hinbound : s.lki.inbound = e :: rest) :
    execAssemblerTake s = .next { s with
      lki := { s.lki with
        inbound := rest, held := (assembled s.lki.assembler e).2.1
        assembler := if e.boundary then .waitCode else (assembled s.lki.assembler e).1 }
      stu := { s.stu with
        sticky := s.stu.sticky ||| (assembled s.lki.assembler e).2.2
          ||| (if e.boundary ∧ (assembled s.lki.assembler e).1.truncates then 0x10 else 0) } } := by
  obtain ⟨u, hu⟩ : ∃ u : State, u = { s with lki := { s.lki with inbound := rest } } := ⟨_, rfl⟩
  have taken : execAssemblerTake s = .next (if e.boundary then (u.assemble e).boundaryTest else u.assemble e) := by
    simp [execAssemblerTake, hinbound, hreset, hheld, hu]
  rw [taken, State.assemble_eq e (by rw [hu]; exact hheld), State.boundaryTest_eq, hu]
  cases e.boundary with
  | false => simp [State.afterEntry]
  | true => cases htruncates : (assembled s.lki.assembler e).1.truncates <;> simp [State.afterEntry, htruncates]

/-- Settles O9: the step's equation is `execAssemblerTake_takes`. -/
theorem assemblerTakesHeadEntry : Obligations.AssemblerTakesHeadEntry := by
  intro s e rest hreset hheld hinbound
  exact execAssemblerTake_takes hreset hheld hinbound

end Sys2Proof.Machine
end

section
/-!
PROOFS, the link side as every step keeps it (R5, R6, R8, R12, R15, R16): what holds of LKI alone, kept by each of its operations;
then the whole link side, kept by every command.
-/

namespace Sys2Proof.Machine

/-! ## LKI alone -/

/-- What `State.LinkSound` says of LKI alone; that a reply is owed only while MDC is BUSY is the rest of it. -/
structure Lki.Sound (l : Lki) : Prop where
  inbound : l.inbound.length ≤ 64
  replies : l.replies.length ≤ 4
  room : l.replyOwed = true → l.replies.length < 4
  assembling : l.assembler.Sound
  held : ∀ h, l.held = some h → h.Sound
  sending : ∀ bits, l.tx = .sending bits → ∃ chars rest, l.replies = chars :: rest ∧ bits = replyLevels chars
  gap : l.replyGap ≤ 255
  onlyLoudReplies : l.selection ≠ .loud →
    (∀ e ∈ l.inbound, e.reply = false) ∧ l.assembler.reply = false ∧ (∀ h, l.held = some h → h.reply = false)
      ∧ l.replyOwed = false ∧ l.replies = l.begunReplies

theorem State.linkSound_iff (s : State) :
    s.LinkSound ↔ s.lki.Sound ∧ (s.lki.replyOwed = true → s.mdc ≠ .idle) :=
  ⟨fun h => ⟨⟨h.inbound, h.replies, fun owed => (h.owed owed).2, h.assembling, h.held, h.sending, h.gap, h.onlyLoudReplies⟩,
    fun owed => (h.owed owed).1⟩,
   fun ⟨h, busy⟩ => ⟨h.inbound, h.replies, fun owed => ⟨busy owed, h.room owed⟩, h.assembling, h.held, h.sending, h.gap,
    h.onlyLoudReplies⟩⟩

theorem State.LinkSound.lki {s : State} (h : s.LinkSound) : s.lki.Sound := (s.linkSound_iff.1 h).1

/-- A step that leaves LKI, and MDC BUSY if it was, keeps the link side. -/
theorem State.LinkSound.of_same {s t : State} (h : s.LinkSound) (hlki : t.lki = s.lki) (hmdc : s.mdc ≠ .idle → t.mdc ≠ .idle) :
    t.LinkSound := by
  obtain ⟨sound, busy⟩ := s.linkSound_iff.1 h
  exact t.linkSound_iff.2 ⟨hlki ▸ sound, fun owed => hmdc (busy (hlki ▸ owed))⟩

/-- While no reply is owed, the link side is LKI. -/
theorem State.linkSound_of_not_owed {t : State} (h : t.lki.Sound) (howed : t.lki.replyOwed = false) : t.LinkSound :=
  t.linkSound_iff.2 ⟨h, fun owed => Bool.noConfusion (howed.symm.trans owed)⟩

/-! ### Replies begun -/

theorem Lki.begunReplies_eq_take {l : Lki} {bits : List Bool} (htx : l.tx = .sending bits) :
    l.begunReplies = l.replies.take 1 := by
  simp [Lki.begunReplies, htx]

theorem Lki.begunReplies_eq_nil {l : Lki} (htx : ∀ bits, l.tx ≠ .sending bits) : l.begunReplies = [] := by
  unfold Lki.begunReplies
  split
  · next bits h => exact absurd h (htx bits)
  · rfl

theorem Lki.begunReplies_length_le (l : Lki) : l.begunReplies.length ≤ l.replies.length := by
  unfold Lki.begunReplies
  split <;> simp

/-- Cancelling leaves the replies begun as they are (R5). -/
theorem Lki.begunReplies_cancelReplies (l : Lki) : l.cancelReplies.begunReplies = l.begunReplies := by
  cases htx : l.tx <;> simp [Lki.begunReplies, Lki.cancelReplies, htx]

/-! ### Parts of LKI -/

theorem Assembler.Sound.clearReply {a : Assembler} (h : a.Sound) : a.clearReply.Sound := by
  cases a <;> exact h

theorem HeldItem.Sound.clearReply {h : HeldItem} (hs : h.Sound) : h.clearReply.Sound := by
  cases h <;> exact hs

theorem markNewest_length (es : List InEntry) : (markNewest es).length = es.length := by
  simpa using congrArg List.length (map_markNewest (fun _ => ()) (fun _ => rfl) es)

theorem markNewest_reply {es : List InEntry} (h : ∀ e ∈ es, e.reply = false) : ∀ e ∈ markNewest es, e.reply = false := by
  intro e he
  have hmem : e.reply ∈ es.map InEntry.reply := map_markNewest InEntry.reply (fun _ => rfl) es ▸ List.mem_map_of_mem he
  obtain ⟨x, hx, hreply⟩ := List.mem_map.1 hmem
  exact hreply ▸ h x hx

/-- The message being assembled stays sound, and what is held of it too (R8, R9, R10). -/
theorem assembled_sound {a : Assembler} (h : a.Sound) (e : InEntry) :
    (assembled a e).1.Sound ∧ ∀ item, (assembled a e).2.1 = some item → item.Sound := by
  cases a with
  | waitCode => exact ⟨rfl, nofun⟩
  | waitLength m =>
    have hparams : m.params = [] := h
    cases hform : e.damaged || e.gap || decide (60 < e.value.toNat) with
    | true => rw [assembled_waitLength_form hform]; exact ⟨trivial, nofun⟩
    | false =>
      have hlength : e.value.toNat ≤ 60 := by simp at hform; exact hform.2
      rw [assembled_waitLength hform]
      refine ⟨?_, nofun⟩
      split
      · next hzero => simp [Assembler.Sound, hparams, hzero]
      · next hzero => exact ⟨by simp [hparams]; omega, hlength⟩
  | params m =>
    obtain ⟨hmore, hlength⟩ : m.params.length < m.length ∧ m.length ≤ 60 := h
    refine ⟨?_, nofun⟩
    simp only [assembled]
    split
    · next hlt => exact ⟨by simpa using hlt, hlength⟩
    · next hlast => exact ⟨by simp; omega, hlength⟩
  | waitCheck m =>
    obtain ⟨hall, hlength⟩ : m.params.length = m.length ∧ m.length ≤ 60 := h
    simp only [assembled]
    split
    · simp [Assembler.Sound, HeldItem.Sound]
    · split
      · simp [Assembler.Sound, HeldItem.Sound]
      · split <;> simp [Assembler.Sound, HeldItem.Sound, Message.wf, hall, hlength]
  | skip => exact ⟨trivial, nofun⟩

/-- Out of entries without the reply flag no reply flag comes. -/
theorem assembled_reply {a : Assembler} (ha : a.reply = false) {e : InEntry} (he : e.reply = false) :
    (assembled a e).1.reply = false ∧ ∀ item, (assembled a e).2.1 = some item → item.reply = false := by
  cases a with
  | waitCode => exact ⟨he, nofun⟩
  | waitLength m =>
    have hm : m.reply = false := ha
    cases hform : e.damaged || e.gap || decide (60 < e.value.toNat) with
    | true => rw [assembled_waitLength_form hform]; exact ⟨rfl, nofun⟩
    | false =>
      rw [assembled_waitLength hform]
      refine ⟨?_, nofun⟩
      split <;> exact hm
  | params m =>
    have hm : m.reply = false := ha
    refine ⟨?_, nofun⟩
    simp only [assembled]
    split <;> exact hm
  | waitCheck m =>
    have hm : m.reply = false := ha
    simp only [assembled]
    split
    · simp [Assembler.reply, HeldItem.reply, hm]
    · split
      · simp [Assembler.reply, HeldItem.reply, hm]
      · split <;> simp [Assembler.reply, HeldItem.reply, hm]
  | skip => exact ⟨rfl, nofun⟩

/-! ### LKI's operations -/

/-- No address character makes a reply owed. -/
theorem Lki.replyOwed_of_addressed {l : Lki} {sel : Selection} (howed : (l.addressed sel).replyOwed = true) :
    l.replyOwed = true := by
  simp only [Lki.addressed, Lki.select_eq] at howed
  split at howed
  · exact Bool.noConfusion howed
  · exact howed

namespace Lki.Sound
variable {l : Lki}

/-- MDC's take of the held item, with room for its reply when it carries the flag (R12). -/
theorem take (h : l.Sound) {item : HeldItem} (hheld : l.held = some item)
    (room : item.reply = true → l.replies.length < 4) :
    ({ l with held := none, replyOwed := item.reply } : Lki).Sound :=
  { h with
    room := room
    held := nofun
    onlyLoudReplies := fun hsel =>
      have ⟨hinbound, hassembler, hitem, _, hreplies⟩ := h.onlyLoudReplies hsel
      ⟨hinbound, hassembler, nofun, hitem item hheld, hreplies⟩ }

/-- The end of an execution: the reply owed joins the queue, in the room that was kept for it (R14, R15). -/
theorem finish (h : l.Sound) (reply : List Byte) :
    ({ l with replyOwed := false, replies := if l.replyOwed then l.replies ++ [reply] else l.replies } : Lki).Sound := by
  cases howed : l.replyOwed with
  | false =>
    exact { h with
      room := nofun
      onlyLoudReplies := fun hsel =>
        have ⟨hinbound, hassembler, hheld, _, hreplies⟩ := h.onlyLoudReplies hsel
        ⟨hinbound, hassembler, hheld, rfl, hreplies⟩ }
  | true =>
    exact { h with
      replies := by simpa using h.room howed
      room := nofun
      sending := fun bits htx =>
        have ⟨chars, rest, hreplies, hbits⟩ := h.sending bits htx
        ⟨chars, rest ++ [reply], by simp [hreplies], hbits⟩
      onlyLoudReplies := fun hsel =>
        have ⟨_, _, _, hnone, _⟩ := h.onlyLoudReplies hsel
        Bool.noConfusion (howed.symm.trans hnone) }

/-- A change of the selection state (R3, R5). -/
theorem select (h : l.Sound) (sel : Selection) : (l.select sel).Sound := by
  rw [Lki.select_eq]
  split
  · exact { h with
      inbound := (List.length_map ..).trans_le h.inbound
      replies := l.begunReplies_length_le.trans h.replies
      room := nofun
      assembling := h.assembling.clearReply
      held := fun item hitem => by
        obtain ⟨x, hx, rfl⟩ := Option.map_eq_some_iff.1 hitem
        exact (h.held x hx).clearReply
      sending := fun bits htx => by
        obtain ⟨chars, rest, hreplies, hbits⟩ := h.sending bits htx
        exact ⟨chars, [], (Lki.begunReplies_eq_take (l := l) htx).trans (by simp [hreplies]), hbits⟩
      onlyLoudReplies := fun _ => by
        refine ⟨fun e he => ?_, Assembler.reply_clearReply _, fun item hitem => ?_, rfl, ?_⟩
        · obtain ⟨x, _, rfl⟩ := List.mem_map.1 he
          rfl
        · obtain ⟨x, _, rfl⟩ := Option.map_eq_some_iff.1 hitem
          exact x.reply_clearReply
        · exact l.begunReplies_cancelReplies.symm }
  · next hstay =>
    exact { h with onlyLoudReplies := fun hsel => h.onlyLoudReplies fun hloud => hstay ⟨hloud, hsel⟩ }

/-- An address character (R3 to R5). -/
theorem addressed (h : l.Sound) (sel : Selection) : (l.addressed sel).Sound :=
  have hs := h.select sel
  { hs with
    inbound := (markNewest_length _).trans_le hs.inbound
    assembling := by
      simp only [Lki.addressed]
      split
      · trivial
      · exact hs.assembling
    onlyLoudReplies := fun hsel => by
      obtain ⟨hinbound, hassembler, hrest⟩ := hs.onlyLoudReplies hsel
      refine ⟨markNewest_reply hinbound, ?_, hrest⟩
      simp only [Lki.addressed]
      split
      · rfl
      · exact hassembler }

/-- A data character that finds room (R6). -/
theorem queue (h : l.Sound) (hroom : l.inbound.length < 64) {e : InEntry} (he : e.reply = (l.selection == .loud)) :
    ({ l with inbound := l.inbound ++ [e], gapPending := false } : Lki).Sound :=
  { h with
    inbound := by simpa using hroom
    onlyLoudReplies := fun hsel => by
      obtain ⟨hinbound, hrest⟩ := h.onlyLoudReplies hsel
      refine ⟨fun x hx => ?_, hrest⟩
      rcases List.mem_append.1 hx with hx | hx
      · exact hinbound x hx
      · rw [List.mem_singleton.1 hx, he]
        simpa using hsel }

/-- A break leaves nothing that could be unsound (R18). -/
theorem broken (h : l.Sound) : l.broken.Sound where
  inbound := Nat.zero_le _
  replies := Nat.zero_le _
  room := nofun
  assembling := trivial
  held := nofun
  sending bits htx := by cases hl : l.tx <;> simp [Lki.broken, hl] at htx
  gap := h.gap
  onlyLoudReplies _ := ⟨nofun, rfl, nofun, rfl, by cases hl : l.tx <;> simp [Lki.broken, Lki.begunReplies, hl]⟩

/-- The assembler's take of the head entry (R8 to R10). -/
theorem assemble (h : l.Sound) {e : InEntry} {rest : List InEntry} (hinbound : l.inbound = e :: rest) :
    ({ l with
      inbound := rest, held := (assembled l.assembler e).2.1
      assembler := if e.boundary then .waitCode else (assembled l.assembler e).1 } : Lki).Sound := by
  obtain ⟨hassembler, hheld⟩ := assembled_sound h.assembling e
  exact { h with
    inbound := by have := h.inbound; rw [hinbound, List.length_cons] at this; exact Nat.le_of_succ_le this
    assembling := by
      dsimp only
      split
      · trivial
      · exact hassembler
    held := hheld
    onlyLoudReplies := fun hsel => by
      obtain ⟨hentries, hreply, _, hrest⟩ := h.onlyLoudReplies hsel
      rw [hinbound, List.forall_mem_cons] at hentries
      obtain ⟨hreply, hitem⟩ := assembled_reply hreply hentries.1
      refine ⟨hentries.2, ?_, hitem, hrest⟩
      dsimp only
      split
      · rfl
      · exact hreply }

/-- The transmitter begins the reply at the head of the queue, the unit LOUD (R16). -/
theorem begin (h : l.Sound) {chars : List Byte} {rest : List (List Byte)} (hreplies : l.replies = chars :: rest)
    (hloud : l.selection = .loud) : ({ l with tx := .sending (replyLevels chars), replyHigh := 0 } : Lki).Sound :=
  { h with
    sending := fun _ hbits => ⟨chars, rest, hreplies, (TxLine.sending.inj hbits).symm⟩
    onlyLoudReplies := fun hsel => absurd hloud hsel }

/-- The reply sent leaves the queue and the line is released (R16). -/
theorem sent (h : l.Sound) {bits : List Bool} (htx : l.tx = .sending bits) :
    ({ l with replies := l.replies.drop 1, tx := .released, replyHigh := 0 } : Lki).Sound :=
  { h with
    replies := by have := h.replies; simp; omega
    room := fun howed => by have := h.room howed; simp; omega
    sending := nofun
    onlyLoudReplies := fun hsel => by
      obtain ⟨hinbound, hassembler, hheld, howed, hreplies⟩ := h.onlyLoudReplies hsel
      refine ⟨hinbound, hassembler, hheld, howed, ?_⟩
      rw [Lki.begunReplies_eq_take htx] at hreplies
      rw [Lki.begunReplies_eq_nil (fun _ => TxLine.noConfusion), hreplies]
      simp }

/-- After a break the line is released (R18). -/
theorem release (h : l.Sound) (htx : l.tx = .cutShort) : ({ l with tx := .released, replyHigh := 0 } : Lki).Sound :=
  { h with
    sending := nofun
    onlyLoudReplies := fun hsel => by
      obtain ⟨hinbound, hassembler, hheld, howed, hreplies⟩ := h.onlyLoudReplies hsel
      refine ⟨hinbound, hassembler, hheld, howed, ?_⟩
      rw [Lki.begunReplies_eq_nil (l := l) (by simp [htx])] at hreplies
      exact hreplies.trans (Lki.begunReplies_eq_nil fun _ => TxLine.noConfusion).symm }

end Lki.Sound

/-! ## Every step -/

/-- What holds of the state that a step goes on to. -/
def Step.Leads (P : State → Prop) : Step → Prop
  | .next t => P t
  | .fault _ => True
  | .refused _ => True

theorem Step.Leads.next {P : State → Prop} {r : Step} {t : State} (h : Step.Leads P r) (hr : r = .next t) : P t := by
  rw [hr] at h
  exact h

section
variable {s : State}

theorem State.endExecution_linkSound (h : s.lki.Sound) (code : Byte) (r : Result) (data : List Byte) :
    (s.endExecution code r data).LinkSound :=
  State.linkSound_of_not_owed (h.finish _) rfl

/-- A body that goes on leaves the link side sound. -/
theorem Verdict.KeepsLink.goesOn_linkSound {m : Message} {u : State} (keeps : (Verdict.goesOn u).KeepsLink m s)
    (h : s.lki.Sound) : u.LinkSound := by
  cases keeps with
  | busy lki mdc => exact (State.linkSound_iff _).2 ⟨lki ▸ h, fun _ => mdc⟩
  | ended lki => exact State.endExecution_linkSound (lki ▸ h) _ _ _

/-- A message command: its take keeps LKI sound, and so does whatever its body decides. -/
theorem runCommand_linkSound (h : s.LinkSound) (c : Command) : (runCommand c c.body s).LinkSound := by
  rcases runCommand_cases c c.body s with same | ⟨m, reply, ready⟩
  · exact same.symm ▸ h
  · have taken : (s.taken reply).lki.Sound := h.lki.take ready.held ready.room
    have refused (r : Result) : (s.answered m reply r []).LinkSound :=
      (State.endExecution_answered (s := s) (u := s.taken reply) rfl) ▸ State.endExecution_linkSound taken m.code r []
    rw [runCommand_ready ready]
    split
    · have keeps := c.body_keepsLink m (s.taken reply)
      cases hverdict : c.body m (s.taken reply) with
      | refuse r => exact refused r
      | done u data =>
        rw [hverdict] at keeps
        cases keeps with
        | done lki => exact State.endExecution_linkSound (lki ▸ taken) _ _ _
        | regap gap le lki => exact State.endExecution_linkSound (lki ▸ { taken with gap := le }) _ _ _
      | goesOn u => exact (hverdict ▸ keeps).goesOn_linkSound taken
    · exact refused .badLen

theorem rxStep_linkSound (h : s.LinkSound) (before next : RxState) : (rxStep before next s).LinkSound := by
  unfold rxStep
  split
  · exact (State.linkSound_iff _).2 ⟨{ h.lki with }, (s.linkSound_iff.1 h).2⟩
  · exact h

theorem execResetRelease_linkSound (h : s.LinkSound) (strap : BitVec 4) :
    Step.Leads State.LinkSound (execResetRelease strap s) := by
  unfold execResetRelease
  split
  · exact (State.linkSound_iff _).2 ⟨{ h.lki with }, (s.linkSound_iff.1 h).2⟩
  · exact h

theorem execAddressCharacter_linkSound (h : s.LinkSound) (v : Byte) (parity stop : Bool) :
    Step.Leads State.LinkSound (execAddressCharacter v parity stop s) := by
  unfold execAddressCharacter
  split
  · rw [State.addressReceived_eq]
    exact (State.linkSound_iff _).2 ⟨Lki.Sound.addressed (l := (s.setRx (rxAfter stop)).lki) { h.lki with } _,
      fun owed => (s.linkSound_iff.1 h).2 (Lki.replyOwed_of_addressed (l := (s.setRx (rxAfter stop)).lki) owed)⟩
  · exact h

theorem execDataCharacter_linkSound (h : s.LinkSound) (v : Byte) (parity stop : Bool) :
    Step.Leads State.LinkSound (execDataCharacter v parity stop s) := by
  have busy := (s.linkSound_iff.1 h).2
  have received : (s.setRx (rxAfter stop)).lki.Sound := { h.lki with }
  unfold execDataCharacter
  split
  · unfold State.dataReceived
    split
    · exact (State.linkSound_iff _).2 ⟨received, busy⟩
    · split
      · next hroom => exact (State.linkSound_iff _).2 ⟨received.queue hroom rfl, busy⟩
      · exact (State.linkSound_iff _).2 ⟨{ received with }, busy⟩
  · exact h

theorem execBreak_linkSound (h : s.LinkSound) : Step.Leads State.LinkSound (execBreak s) := by
  unfold execBreak
  split
  · exact State.linkSound_of_not_owed h.lki.broken rfl
  · exact h

theorem execAssemblerTake_linkSound (h : s.LinkSound) : Step.Leads State.LinkSound (execAssemblerTake s) := by
  cases hinbound : s.lki.inbound with
  | nil =>
    simp only [execAssemblerTake, hinbound]
    exact h
  | cons e rest =>
    cases hgo : !s.resetLow && s.lki.held.isNone with
    | true =>
      obtain ⟨hreset, hheld⟩ : s.resetLow = false ∧ s.lki.held = none := by simpa using hgo
      rw [execAssemblerTake_takes hreset hheld hinbound]
      exact (State.linkSound_iff _).2 ⟨h.lki.assemble hinbound, (s.linkSound_iff.1 h).2⟩
    | false =>
      simp only [execAssemblerTake, hinbound, hgo]
      exact h

theorem execDiscardNoticeTake_linkSound (h : s.LinkSound) : Step.Leads State.LinkSound (execDiscardNoticeTake s) := by
  unfold execDiscardNoticeTake
  split
  · next code reason reply hheld =>
    split
    · next may =>
      obtain ⟨_, _, room⟩ := (s.mayTake_iff reply).1 may
      exact State.endExecution_linkSound (s := s.takeHeld reply) (h.lki.take hheld room) _ _ _
    · exact h
  · exact h

theorem execUnknownCommand_linkSound (h : s.LinkSound) : Step.Leads State.LinkSound (execUnknownCommand s) := by
  unfold execUnknownCommand
  split
  · next m reply hheld =>
    split
    · next may =>
      obtain ⟨_, _, room⟩ := (s.mayTake_iff reply).1 (Bool.and_eq_true_iff.1 may).1
      exact State.endExecution_linkSound (s := s.takeHeld reply) (h.lki.take hheld room) _ _ _
    · exact h
  · exact h

theorem execReplyStart_linkSound (h : s.LinkSound) (high : Nat) : Step.Leads State.LinkSound (execReplyStart high s) := by
  have busy := (s.linkSound_iff.1 h).2
  unfold execReplyStart
  split
  · next chars rest hreplies =>
    split
    · next hwaiting =>
      obtain ⟨_, _, hloud⟩ := s.lki.transmitter_eq_waiting.1 (by simpa using (Bool.and_eq_true_iff.1 hwaiting).2)
      split
      · exact (State.linkSound_iff _).2 ⟨h.lki.begin hreplies hloud, busy⟩
      · exact (State.linkSound_iff _).2 ⟨{ h.lki with }, busy⟩
    · exact h
  · exact h

theorem execReplyEnd_linkSound (h : s.LinkSound) : Step.Leads State.LinkSound (execReplyEnd s) := by
  unfold execReplyEnd
  split
  · next bits htx =>
    split
    · exact h
    · exact (State.linkSound_iff _).2 ⟨h.lki.sent htx, (s.linkSound_iff.1 h).2⟩
  · exact h

theorem execReplyCutShort_linkSound (h : s.LinkSound) : Step.Leads State.LinkSound (execReplyCutShort s) := by
  unfold execReplyCutShort
  split
  · next hcut =>
    exact (State.linkSound_iff _).2
      ⟨h.lki.release (by simpa using (Bool.and_eq_true_iff.1 hcut).2), (s.linkSound_iff.1 h).2⟩
  · exact h

/-! ### Grants, the Painter and the display -/

/-- The end of a job may end a SYNC, and touches LKI in no other way (R158). -/
theorem State.jobEnded_linkSound (h : s.LinkSound) (k : Nat) : (s.jobEnded k).LinkSound := by
  simp only [State.jobEnded]
  split
  · next m job slots hmdc =>
    generalize (if job then slots else slots.filter (· != k)) = rest
    split
    · exact State.endExecution_linkSound h.lki _ _ _
    · exact h.of_same rfl fun _ => Mdc.noConfusion
  · exact h

theorem State.clearEnded_linkSound (h : s.LinkSound) (k : Nat) : (s.clearEnded k).LinkSound := by
  unfold State.clearEnded
  refine State.jobEnded_linkSound ?_ k
  exact h.of_same rfl id

theorem State.takeClear_linkSound (h : s.LinkSound) (k : Nat) : (s.takeClear k).LinkSound := by
  unfold State.takeClear
  split
  · exact State.clearEnded_linkSound h k
  · exact h.of_same rfl id

theorem State.takeLive_linkSound (h : s.LinkSound) (k : Nat) : (s.takeLive k).LinkSound := by
  simp only [State.takeLive]
  split <;> exact h.of_same rfl id

theorem State.paintEnded_linkSound (h : s.LinkSound) (k : Nat) (string : List Byte) : (s.paintEnded k string).LinkSound := by
  unfold State.paintEnded
  refine State.jobEnded_linkSound ?_ k
  exact h.of_same rfl id

theorem State.paintWrite_linkSound (h : s.LinkSound) (k : Nat) (w : CellWrite) : (s.paintWrite k w).LinkSound := by
  unfold State.paintWrite
  split
  · exact h.of_same rfl id
  · exact h

theorem State.clearWrite_linkSound (h : s.LinkSound) (k : Nat) (w : CellWrite) : (s.clearWrite k w).LinkSound := by
  unfold State.clearWrite
  split
  · exact h.of_same rfl id
  · exact h

theorem State.vacate_linkSound (h : s.LinkSound) (k : Nat) (w : CellWrite) : (s.vacate k w).LinkSound := by
  unfold State.vacate
  split
  · exact h.of_same rfl id
  · exact h

theorem State.textWrite_linkSound (h : s.LinkSound) (w : CellWrite) : (s.textWrite w).LinkSound := by
  unfold State.textWrite
  split
  · exact h.of_same rfl id
  · exact h

theorem execPainterTake_linkSound (h : s.LinkSound) : Step.Leads State.LinkSound (execPainterTake s) := by
  unfold execPainterTake
  split
  · next k rest hqueue =>
    split
    · have taken : ({ s.updSlot k (fun r => { r with queued := false }) with
          ptr := { s.ptr with queue := rest } } : State).LinkSound := h.of_same rfl id
      split
      · exact State.takeLive_linkSound taken k
      · exact State.takeClear_linkSound taken k
      · trivial
    · exact h
  · exact h

theorem execPaintWriteGrant_linkSound (h : s.LinkSound) : Step.Leads State.LinkSound (execPaintWriteGrant s) := by
  unfold execPaintWriteGrant
  split
  · next k sn bank string w ws hpainter =>
    split
    · have written : ((s.paintWrite k w).setMark .ptr).LinkSound := (State.paintWrite_linkSound h k w).of_same rfl id
      dsimp only
      split
      · exact State.paintEnded_linkSound written k string
      · exact written.of_same rfl id
    · exact h
  · exact h

theorem execClearWriteGrant_linkSound (h : s.LinkSound) : Step.Leads State.LinkSound (execClearWriteGrant s) := by
  unfold execClearWriteGrant
  split
  · next k w ws hpainter =>
    split
    · have written : ((s.clearWrite k w).setMark .ptr).LinkSound := (State.clearWrite_linkSound h k w).of_same rfl id
      dsimp only
      split
      · exact State.clearEnded_linkSound written k
      · exact written.of_same rfl id
    · exact h
  · exact h

theorem execTextWriteGrant_linkSound (h : s.LinkSound) : Step.Leads State.LinkSound (execTextWriteGrant s) := by
  unfold execTextWriteGrant
  split
  · next m w ws hmdc =>
    split
    · have written : ((s.textWrite w).setMark .mdc).LinkSound := (State.textWrite_linkSound h w).of_same rfl id
      dsimp only
      split
      · exact State.endExecution_linkSound written.lki _ _ _
      · exact written.of_same rfl fun _ => Mdc.noConfusion
    · exact h
  · exact h

theorem execVacateWriteGrant_linkSound (h : s.LinkSound) : Step.Leads State.LinkSound (execVacateWriteGrant s) := by
  unfold execVacateWriteGrant
  split
  · next m p cleared k w ws rest hmdc =>
    split
    · have written : ((s.vacate k w).setMark .mdc).LinkSound := (State.vacate_linkSound h k w).of_same rfl id
      dsimp only
      split
      · exact (moveNext_keepsLink m p cleared rest (State.reclaim_lki _ k)).goesOn_linkSound written.lki
      · exact written.of_same rfl fun _ => Mdc.noConfusion
    · exact h
  · exact h

theorem execFrameStart_linkSound (h : s.LinkSound) : Step.Leads State.LinkSound (execFrameStart s) := by
  unfold execFrameStart
  split
  · exact h
  · unfold State.oweSweep
    split <;> exact h.of_same rfl id

theorem execRowRead_linkSound (h : s.LinkSound) : Step.Leads State.LinkSound (execRowRead s) := by
  unfold execRowRead
  split
  · split
    · exact h.of_same rfl id
    · exact h
  · exact h

theorem execSweep_linkSound (h : s.LinkSound) : Step.Leads State.LinkSound (execSweep s) := by
  unfold execSweep
  split
  · obtain ⟨hlki, hmdc⟩ := s.ageAll_lki_mdc
    exact h.of_same ((State.joinGroup_lki _ _).trans hlki) fun busy => by rwa [State.joinGroup_mdc, hmdc]
  · exact h

theorem State.reset_lki_sound : State.reset.lki.Sound where
  inbound := Nat.zero_le _
  replies := Nat.zero_le _
  room := nofun
  assembling := trivial
  held := nofun
  sending := nofun
  gap := by decide
  onlyLoudReplies _ := ⟨nofun, rfl, nofun, rfl, rfl⟩

/-- Every command keeps the link side sound. -/
theorem exec_linkSound (h : s.LinkSound) (i : Instr) : Step.Leads State.LinkSound (exec i s) := by
  have command (c : Command) : Step.Leads State.LinkSound (exec c.instr s) := by
    rw [exec_instr]
    exact runCommand_linkSound h c
  cases i with
  | powerOnReset => exact State.linkSound_of_not_owed State.reset_lki_sound rfl
  | resetRelease strap => exact execResetRelease_linkSound h strap
  | settleEnd => exact rxStep_linkSound h .settle .hunt
  | addressCharacter v parity stop => exact execAddressCharacter_linkSound h v parity stop
  | dataCharacter v parity stop => exact execDataCharacter_linkSound h v parity stop
  | breakEvent => exact execBreak_linkSound h
  | assemblerTake => exact execAssemblerTake_linkSound h
  | discardNoticeTake => exact execDiscardNoticeTake_linkSound h
  | unknownCommand => exact execUnknownCommand_linkSound h
  | replyStart high => exact execReplyStart_linkSound h high
  | replyEnd => exact execReplyEnd_linkSound h
  | bind => exact command .bind
  | amend => exact command .amend
  | retire => exact command .retire
  | lookup => exact command .lookup
  | probe => exact command .probe
  | tick => exact command .tick
  | qtick => exact command .qtick
  | refer => exact command .refer
  | extremesClear => exact command .extremesClear
  | stale => exact command .stale
  | alerts => exact command .alerts
  | panelOpen => exact command .panelOpen
  | panelClose => exact command .panelClose
  | panelFreeze => exact command .panelFreeze
  | panelThaw => exact command .panelThaw
  | panelMove => exact command .panelMove
  | vacateWriteGrant => exact execVacateWriteGrant_linkSound h
  | attrSet => exact command .attrSet
  | schemeSet => exact command .schemeSet
  | schemeSwap => exact command .schemeSwap
  | text => exact command .text
  | fill => exact command .fill
  | textWriteGrant => exact execTextWriteGrant_linkSound h
  | showPage => exact command .showPage
  | pattern => exact command .pattern
  | glyphLoad => exact command .glyphLoad
  | status => exact command .status
  | config => exact command .config
  | sync => exact command .sync
  | painterTake => exact execPainterTake_linkSound h
  | paintWriteGrant => exact execPaintWriteGrant_linkSound h
  | clearWriteGrant => exact execClearWriteGrant_linkSound h
  | frameStart => exact execFrameStart_linkSound h
  | rowRead => exact execRowRead_linkSound h
  | sweep => exact execSweep_linkSound h
  | startBitFall => exact rxStep_linkSound h .hunt .receive
  | falseStart => exact rxStep_linkSound h .receive .hunt
  | awaitHighExit => exact rxStep_linkSound h .awaitHigh .hunt
  | replyCutShort => exact execReplyCutShort_linkSound h

end

/-- Settles O52: the promise is inductive by itself. -/
theorem linkStaysSound : Obligations.LinkStaysSound := by
  intro s t h hstep
  unfold step at hstep
  split at hstep
  · exact Host.Outcome.next.inj hstep ▸ h
  · next i rest hpending => exact (exec_linkSound (h.of_same (t := { s with pending := rest }) rfl id) i).next hstep

end Sys2Proof.Machine
end

section
/-!
PROOFS, MDC's takes (R12, R13, R21): when it takes nothing, what it answers without decoding parameters, and what a refusal leaves.
-/

namespace Sys2Proof.Machine

/-! ## When MDC takes nothing -/

/-- MDC is BUSY, LKI holds nothing, or what it holds wants a reply for which there is no room (R12). -/
def State.MdcWaits (s : State) : Prop :=
  s.mdc ≠ .idle ∨ s.lki.held = none ∨ (∃ h, s.lki.held = some h ∧ h.reply = true) ∧ 4 ≤ s.lki.replies.length

theorem State.MdcWaits.not_mayTake {s : State} (hwaits : s.MdcWaits) {item : HeldItem} (hheld : s.lki.held = some item) :
    s.mayTake item.reply = false := by
  rw [← Bool.not_eq_true, State.mayTake_iff]
  rintro ⟨_, hidle, hroom⟩
  rcases hwaits with hbusy | hnone | ⟨⟨other, hother, hreply⟩, hfull⟩
  · exact hbusy hidle
  · simp [hnone] at hheld
  · obtain rfl : other = item := Option.some.inj (hother.symm.trans hheld)
    exact absurd (hroom hreply) (Nat.not_lt.2 hfull)

theorem runCommand_waits {s : State} (hwaits : s.MdcWaits) (c : Command) (body : Message → State → Verdict) :
    runCommand c body s = s := by
  rcases runCommand_cases c body s with same | ⟨m, reply, ready⟩
  · exact same
  · have hmay : s.mayTake reply = false := hwaits.not_mayTake ready.held
    rw [(s.mayTake_iff reply).2 ⟨ready.running, ready.idle, ready.room⟩] at hmay
    exact Bool.noConfusion hmay

/-- Settles O12: in every take the item held fails R12's condition. -/
theorem mdcWaitsForItsTurn : Obligations.MdcWaitsForItsTurn := by
  intro s i htake (hwaits : s.MdcWaits)
  rcases htake with ⟨c, rfl⟩ | rfl | rfl
  · rw [exec_instr, runCommand_waits hwaits]
  · change execDiscardNoticeTake s = _
    unfold execDiscardNoticeTake
    split
    · next code reason reply hheld =>
      have hmay : s.mayTake reply = false := hwaits.not_mayTake hheld
      simp [hmay]
    · rfl
  · change execUnknownCommand s = _
    unfold execUnknownCommand
    split
    · next m reply hheld =>
      have hmay : s.mayTake reply = false := hwaits.not_mayTake hheld
      simp [hmay]
    · rfl

/-! ## What MDC answers without decoding parameters -/

/-- An execution that ends at its take answers the message taken. -/
theorem State.takeHeld_endExecution (s : State) (m : Message) (reply : Bool) (r : Result) (data : List Byte) :
    (s.takeHeld reply).endExecution m.code r data = s.answered m reply r data :=
  State.endExecution_answered (s := s) rfl

theorem knownCode_iff (b : Byte) : knownCode b = true ↔ b ∈ allCommands.map Command.code := by
  simp [knownCode]

/-- The model's length check is Table 1-9, with QTICK's count byte (R13). -/
theorem Command.lengthOk_iff (c : Command) (p : List Byte) :
    c.lengthOk p = true ↔ p.length ∈ tableLengths c ∧ (c = .qtick → u8 p 4 = (p.length - 5) / 4) := by
  cases c with
  | qtick => simp [Command.lengthOk, tableLengths]
  | text =>
    have hrange : p.length ∈ List.range' 6 54 ↔ 6 ≤ p.length ∧ p.length ≤ 59 := List.mem_range'_1.trans (by omega)
    simp [Command.lengthOk, tableLengths, hrange]
  | _ => simp [Command.lengthOk, tableLengths]

/-- Settles O11: each of the three answers ends the execution at its take. -/
theorem noticeUnknownAndLengthAnswered : Obligations.NoticeUnknownAndLengthAnswered := by
  refine ⟨fun s code reason reply hreset hidle hheld hroom => ?_, fun s m reply hreset hidle hheld hroom hcode => ?_,
    fun c s m reply ready hlength => ?_⟩
  · have hmay := (s.mayTake_iff reply).2 ⟨hreset, hidle, hroom⟩
    change execDiscardNoticeTake s = _
    simp only [execDiscardNoticeTake, hheld, hmay, if_true]
    refine congrArg Host.Outcome.next ((s.takeHeld_endExecution ⟨code, []⟩ reply .discarded [reason.byte]).trans ?_)
    cases reason <;> rfl
  · have hmay := (s.mayTake_iff reply).2 ⟨hreset, hidle, hroom⟩
    have hunknown : knownCode m.code = false := by
      rw [← Bool.not_eq_true, knownCode_iff]
      exact hcode
    change execUnknownCommand s = _
    simp only [execUnknownCommand, hheld, hmay, hunknown, Bool.not_false, Bool.and_self, if_true]
    exact congrArg Host.Outcome.next (s.takeHeld_endExecution m reply .unknown [])
  · have hbad : c.lengthOk m.params ≠ true := by
      rw [Ne, Command.lengthOk_iff]
      rintro ⟨hlisted, hcount⟩
      rcases hlength with hlength | ⟨hqtick, hlength⟩
      · exact hlength hlisted
      · exact hlength (hcount hqtick)
    rw [exec_instr, runCommand_ready ready, if_neg hbad]

/-! ## Refusals -/

/-- An execution that ends with OK and appends a reply appends one whose result code is 0 (R15). -/
theorem State.endExecution_ok_result {s : State} {code : Byte} {data : List Byte} {first result : Byte} {more : List Byte}
    (h : (s.endExecution code .ok data).lki.replies = s.lki.replies ++ [first :: result :: more]) : result = 0 := by
  rw [State.endExecution_lki_replies] at h
  split at h
  · have hreply : replyOf code .ok data = first :: result :: more := by simpa using h
    obtain ⟨_, hresult⟩ := List.cons.inj hreply
    exact (List.cons.inj hresult).1.symm
  · simp at h

/-- Settles O13: only a refusal answers another result than OK, and it leaves the state the take found. -/
theorem refusedCommandChangesNothing : Obligations.RefusedCommandChangesNothing := by
  intro c s t m code result more ready hexec hreplies hresult
  have refused (r : Result) : s.answered m true r [] =
      { s with lki := { s.lki with
        held := none, replyOwed := false, replies := (s.answered m true r []).lki.replies } } := by
    simp [State.answered, ready.idle]
  rw [exec_instr, runCommand_ready ready] at hexec
  obtain rfl := Host.Outcome.next.inj hexec
  split at hreplies
  · next hlength =>
    rw [if_pos hlength]
    have keeps := c.body_keepsLink m (s.taken true)
    cases hverdict : c.body m (s.taken true) with
    | refuse r => exact refused r
    | done u data =>
      rw [hverdict] at keeps hreplies
      have same : u.lki.replies = s.lki.replies := by
        cases keeps with
        | done lki => rw [lki]; rfl
        | regap gap le lki => rw [lki]; rfl
      exact absurd (State.endExecution_ok_result (same ▸ hreplies)) hresult
    | goesOn u =>
      rw [hverdict] at keeps hreplies
      cases keeps with
      | busy lki mdc =>
        have same : u.lki.replies = s.lki.replies := by rw [lki]; rfl
        simp [same] at hreplies
      | @ended v lki =>
        have same : v.lki.replies = s.lki.replies := by rw [lki]; rfl
        exact absurd (State.endExecution_ok_result (same ▸ hreplies)) hresult
  · next hlength =>
    rw [if_neg hlength]
    exact refused .badLen

end Sys2Proof.Machine
end

section
/-!
PROOFS, bytes and line levels: how a reply is spelled and sent (R15, R16), and that quantities read as they are written (R20).
-/

namespace Sys2Proof.Machine

/-! ## Replies on the line -/

@[simp] theorem replyCharacter_length (v : Byte) : (replyCharacter v).length = 12 := by
  simp [replyCharacter]

theorem replyLevels_cons (c : Byte) (chars : List Byte) : replyLevels (c :: chars) = replyCharacter c ++ replyLevels chars := rfl

@[simp] theorem replyLevels_length (chars : List Byte) : (replyLevels chars).length = 12 * chars.length := by
  induction chars with
  | nil => rfl
  | cons c chars ih => rw [replyLevels_cons, List.length_append, ih, replyCharacter_length, List.length_cons]; omega

/-- The characters of a reply follow one another with no idle time between them (R16). -/
theorem replyLevels_getElem? {chars : List Byte} {c : Byte} {i j : Nat} (hc : chars[i]? = some c) (hj : j < 12) :
    (replyLevels chars)[12 * i + j]? = (replyCharacter c)[j]? := by
  induction chars generalizing i with
  | nil => simp at hc
  | cons d chars ih =>
    rw [replyLevels_cons]
    cases i with
    | zero =>
      obtain rfl : d = c := by simpa using hc
      rw [Nat.mul_zero, Nat.zero_add]
      exact List.getElem?_append_left ((replyCharacter_length d).symm ▸ hj)
    | succ i =>
      rw [List.getElem?_append_right (by simp; omega), replyCharacter_length, ← ih (by simpa using hc)]
      congr 1
      omega

theorem replyOf_sum (code : Byte) (r : Result) (data : List Byte) : (replyOf code r data).sum = 0 := by
  simp only [replyOf, List.sum_append, List.sum_singleton, zero_sub]
  exact add_neg_cancel _

/-- The ones of a character's data bits, mark and parity are even in number (Table 1-1). -/
theorem replyCharacter_even (v : Byte) : ((replyCharacter v).drop 1 |>.take 10 |>.count true) % 2 = 0 := by
  have hline : ((replyCharacter v).drop 1).take 10
      = (List.range 8).map (fun i => v.getLsbD i) ++ [false, decide (onesOf v % 2 = 1)] := rfl
  have hdata : ((List.range 8).map (fun i => v.getLsbD i)).count true = onesOf v := by
    rw [List.count, List.countP_map, List.countP_eq_length_filter]
    simp [onesOf, Function.comp_def]
  rw [hline, List.count_append, hdata]
  rcases Nat.mod_two_eq_zero_or_one (onesOf v) with heven | hodd
  · simp [heven]
  · simp [hodd]
    omega

/-- Settles O14: the check byte, the place of each character, its bits, and Table 1-10. -/
theorem replyCharactersOnTheLine : Obligations.ReplyCharactersOnTheLine := by
  refine ⟨fun code r data => ⟨_, rfl, replyOf_sum code r data, ?_⟩, fun chars c i j => replyLevels_getElem?,
    fun v => ⟨_, rfl, replyCharacter_even v⟩, by decide⟩
  rw [replyLevels_length]
  simp [replyOf]
  omega

/-! ## Quantities -/

/-! A quantity read past a front is read in what follows the front. -/

section
variable (front rest : List Byte) (k : Nat)

theorem u8_append : u8 (front ++ rest) (front.length + k) = u8 rest k := by
  rw [u8, List.getD_append_right _ _ _ _ (Nat.le_add_right _ _), Nat.add_sub_cancel_left, u8]

theorem u16_append : u16 (front ++ rest) (front.length + k) = u16 rest k := by
  rw [u16, Nat.add_assoc, u8_append, u8_append, u16]

theorem u24_append : u24 (front ++ rest) (front.length + k) = u24 rest k := by
  rw [u24, Nat.add_assoc, u16_append, u8_append, u24]

theorem u32_append : u32 (front ++ rest) (front.length + k) = u32 rest k := by
  rw [u32, Nat.add_assoc, u24_append, u8_append, u32]

theorem s32_append : s32 (front ++ rest) (front.length + k) = s32 rest k := by
  rw [s32, u32_append, s32]

end

theorem byte_toNat (n : Nat) : (byte n).toNat = n % 256 := BitVec.toNat_ofNat ..

/-- A byte after a word is its least significant byte. -/
theorem append_byte_toNat {w : Nat} (x : BitVec w) (b : Byte) : (x ++ b).toNat = x.toNat * 256 + b.toNat := by
  rw [BitVec.toNat_append, ← Nat.shiftLeft_add_eq_or_of_lt b.isLt, Nat.shiftLeft_eq]

/-- Two's complement of four bytes, as `s32` reads it (R20). -/
theorem s32_eq_signed32 (a b c d : Byte) (rest : List Byte) : s32 (a :: b :: c :: d :: rest) 0 = signed32 a b c d := by
  have hread : u32 (a :: b :: c :: d :: rest) 0 = (a ++ b ++ c ++ d : BitVec 32).toNat := by
    simp only [append_byte_toNat]
    rfl
  rw [s32, signed32, hread, BitVec.toInt_eq_toNat_cond]
  generalize (a ++ b ++ c ++ d : BitVec 32).toNat = n
  split <;> split <;> omega

/-- The two's complement bytes of a value spell it modulo 2 to the 32 (R20). -/
theorem u32_bytesS32 (v : Int) : u32 (bytesS32 v) 0 = (v % 4294967296).toNat := by
  have hn : (v % 4294967296).toNat < 4294967296 := by omega
  simp only [u32, u24, u16, u8, bytesS32]
  generalize (v % 4294967296).toNat = n at hn
  simp only [List.getD_cons_zero, List.getD_cons_succ, byte_toNat]
  omega

/-- Settles O16: reading past a front, then bytes read back after they are written. -/
theorem quantitiesReadAsSent : Obligations.QuantitiesReadAsSent := by
  refine ⟨fun front rest a b c d => ⟨?_, ?_, ?_, ?_⟩, fun n hn => ⟨?_, rfl⟩, fun n hn => ⟨?_, rfl⟩, fun v hlo hhi => ⟨?_, rfl⟩⟩
  · exact u8_append front _ 0
  · exact u16_append front _ 0
  · refine (u24_append front _ 0).trans ?_
    simp only [u24, u16, u8, number24, List.getD_cons_zero, List.getD_cons_succ]
    omega
  · exact (s32_append front _ 0).trans (s32_eq_signed32 a b c d rest)
  · simp only [u16, u8, bytes16, List.getD_cons_zero, List.getD_cons_succ, byte_toNat]
    omega
  · simp only [u24, u16, u8, bytes24, List.getD_cons_zero, List.getD_cons_succ, byte_toNat]
    omega
  · rw [s32, u32_bytesS32]
    split <;> omega

end Sys2Proof.Machine
end

section
/-!
PROOFS, a whole message through the assembler (R8, R10): one step for each entry, then the run over a message's entries.
-/

namespace Sys2Proof.Machine

/-! ## One step and a run of steps -/

theorem run_succ_of_step {s t : State} (h : step s = .next t) (n : Nat) :
    Sys2Proof.core.run (n + 1) s = Sys2Proof.core.run n t := by
  have hcore : Sys2Proof.core.step s = .next t := h
  simp only [Host.Core.run, hcore]

/-- `s` with the commands `cmds` waiting, the entries `inbound` queued and the assembler at `a`. -/
def State.assembling (s : State) (cmds : List Instr) (inbound : List InEntry) (a : Assembler) : State :=
  { s with pending := cmds, lki := { s.lki with inbound := inbound, assembler := a } }

section
variable {s : State} (hreset : s.resetLow = false) (hheld : s.lki.held = none)
include hreset hheld

/-- The step of an assembler take: the head entry is handled as `assembled` says. -/
theorem step_assembling (e : InEntry) (rest : List InEntry) (cmds : List Instr) (a : Assembler) :
    step (s.assembling (.assemblerTake :: cmds) (e :: rest) a) = .next { s with
      pending := cmds
      lki := { s.lki with
        inbound := rest, held := (assembled a e).2.1, assembler := if e.boundary then .waitCode else (assembled a e).1 }
      stu := { s.stu with
        sticky := s.stu.sticky ||| (assembled a e).2.2
          ||| (if e.boundary ∧ (assembled a e).1.truncates then 0x10 else 0) } } :=
  execAssemblerTake_takes (s := s.assembling cmds (e :: rest) a) hreset hheld rfl

/-- A take that only moves the assembler on. -/
theorem step_assembling_moves {e : InEntry} (rest : List InEntry) (cmds : List Instr) {a b : Assembler}
    (hboundary : e.boundary = false) (hmoves : assembled a e = (b, none, 0)) :
    step (s.assembling (.assemblerTake :: cmds) (e :: rest) a) = .next (s.assembling cmds rest b) := by
  rw [step_assembling hreset hheld, hmoves]
  simp [hboundary, State.assembling, ← hheld]

end

/-! ## The parameters of a message -/

/-- The message with parameter entries added (R8). -/
def Partial.addParams (m : Partial) (entries : List InEntry) : Partial :=
  { m with
    params := m.params ++ entries.map InEntry.value, sum := m.sum + (entries.map InEntry.value).sum
    gapSeen := m.gapSeen || entries.any InEntry.gap
    lineSeen := m.lineSeen || entries.any (fun e => e.parityError || e.framingError) }

/-- The assembler while the message is not complete: PARAMS until its parameters are all there, then WAIT_CHECK (R8). -/
def Partial.awaiting (m : Partial) : Assembler := if m.params.length < m.length then .params m else .waitCheck m

theorem Partial.addParams_nil (m : Partial) : m.addParams [] = m := by
  simp [Partial.addParams]

theorem Partial.addParams_cons (m : Partial) (e : InEntry) (entries : List InEntry) :
    m.addParams (e :: entries) = (m.addParams [e]).addParams entries := by
  simp [Partial.addParams, BitVec.add_assoc, Bool.or_assoc]

theorem assembled_params (m : Partial) (e : InEntry) :
    assembled (.params m) e = ((m.addParams [e]).awaiting, none, 0) := by
  simp [assembled, Partial.addParams, Partial.awaiting]

/-- The check byte ends the message: WAIT_CODE, the message or its discard notice held, and the reason's flag (R8, R10). -/
theorem assembled_waitCheck (m : Partial) (e : InEntry) :
    assembled (.waitCheck m) e = (.waitCode,
      some (if m.gapSeen || e.gap then .notice m.code .overrun m.reply
        else if m.lineSeen || (e.parityError || e.framingError) then .notice m.code .line m.reply
        else if m.sum + e.value ≠ 0 then .notice m.code .check m.reply
        else .message { code := m.code, params := m.params } m.reply),
      if m.gapSeen || e.gap then 0x01
      else if m.lineSeen || (e.parityError || e.framingError) then 0x02
      else if m.sum + e.value ≠ 0 then 0x04 else 0) := by
  simp only [assembled]
  split
  · rfl
  · split
    · rfl
    · split <;> rfl

theorem assembled_length {m : Partial} {e : InEntry} (hparams : m.params = []) (hparity : e.parityError = false)
    (hframing : e.framingError = false) (hgap : e.gap = false) (hlength : e.value.toNat ≤ 60) :
    assembled (.waitLength m) e =
      (({ m with length := e.value.toNat, sum := m.sum + e.value } : Partial).awaiting, none, 0) := by
  rw [assembled_waitLength (by simp [InEntry.damaged, hparity, hframing, hgap, hlength])]
  by_cases hzero : e.value.toNat = 0
  · simp [Partial.awaiting, hparams, hzero]
  · simp [Partial.awaiting, hparams, hzero, Nat.pos_of_ne_zero hzero]

/-- A take for each parameter entry brings the assembler to WAIT_CHECK. -/
theorem run_params {s : State} (hreset : s.resetLow = false) (hheld : s.lki.held = none) (entries tail : List InEntry)
    (cmds : List Instr) (n : Nat) {m : Partial} (hlength : m.params.length + entries.length = m.length)
    (hboundary : ∀ e ∈ entries, e.boundary = false) :
    Sys2Proof.core.run (entries.length + n)
        (s.assembling (List.replicate (entries.length + n) .assemblerTake ++ cmds) (entries ++ tail) m.awaiting)
      = Sys2Proof.core.run n
        (s.assembling (List.replicate n .assemblerTake ++ cmds) tail (.waitCheck (m.addParams entries))) := by
  induction entries generalizing m with
  | nil =>
    have hall : m.awaiting = .waitCheck m := if_neg (by simpa using hlength.ge)
    rw [hall, m.addParams_nil, List.length_nil, Nat.zero_add, List.nil_append]
  | cons e entries ih =>
    have hmore : m.awaiting = .params m := if_pos (by rw [List.length_cons] at hlength; omega)
    rw [List.forall_mem_cons] at hboundary
    rw [hmore, List.length_cons, Nat.add_right_comm, List.replicate_succ, m.addParams_cons]
    refine (run_succ_of_step (step_assembling_moves hreset hheld _ _ hboundary.1 (assembled_params m e)) _).trans ?_
    refine ih ?_ hboundary.2
    simp only [Partial.addParams, List.length_append, List.map_cons, List.map_nil, List.length_singleton]
    rw [← hlength, List.length_cons]
    omega

/-! ## A whole message -/

/-- The message when its code, length and parameter entries have been taken (R8). -/
def wholePartial (code len : InEntry) (params : List InEntry) : Partial :=
  Partial.addParams
    { code := code.value, length := len.value.toNat, params := [], sum := code.value + len.value, reply := code.reply
      gapSeen := code.gap, lineSeen := code.parityError || code.framingError } params

/-! What the check byte adds to the damage indications and the sum is what all entries of the message give. -/

section
variable {code len : InEntry} {params : List InEntry} (check : InEntry)

theorem wholePartial_gap (hgap : len.gap = false) : (code :: len :: params ++ [check]).any InEntry.gap
    = ((wholePartial code len params).gapSeen || check.gap) := by
  simp [wholePartial, Partial.addParams, hgap, Bool.or_assoc]

theorem wholePartial_line (hparity : len.parityError = false) (hframing : len.framingError = false) :
    (code :: len :: params ++ [check]).any (fun e => e.parityError || e.framingError)
      = ((wholePartial code len params).lineSeen || (check.parityError || check.framingError)) := by
  simp [wholePartial, Partial.addParams, hparity, hframing, Bool.or_assoc]

theorem wholePartial_sum : ((code :: len :: params ++ [check]).map InEntry.value).sum
    = (wholePartial code len params).sum + check.value := by
  simp [wholePartial, Partial.addParams, BitVec.add_assoc]

end

/-- The entries before the check byte bring the assembler to WAIT_CHECK. -/
theorem run_to_check {s : State} (hreset : s.resetLow = false) (hheld : s.lki.held = none) {code len : InEntry}
    {params : List InEntry} (tail : List InEntry) (cmds : List Instr) (n : Nat)
    (hparams : params.length = len.value.toNat) (hlength : params.length ≤ 60) (hparity : len.parityError = false)
    (hframing : len.framingError = false) (hgap : len.gap = false)
    (hboundary : ∀ e ∈ code :: len :: params, e.boundary = false) :
    Sys2Proof.core.run (params.length + n + 2)
        (s.assembling (List.replicate (params.length + n + 2) .assemblerTake ++ cmds) (code :: len :: params ++ tail) .waitCode)
      = Sys2Proof.core.run n
        (s.assembling (List.replicate n .assemblerTake ++ cmds) tail (.waitCheck (wholePartial code len params))) := by
  rw [List.forall_mem_cons, List.forall_mem_cons] at hboundary
  obtain ⟨hcode, hlen, hentries⟩ := hboundary
  refine (run_succ_of_step (step_assembling_moves hreset hheld _ _ hcode rfl) _).trans ?_
  refine (run_succ_of_step (step_assembling_moves hreset hheld _ _ hlen
    (assembled_length rfl hparity hframing hgap (hparams ▸ hlength))) _).trans ?_
  exact run_params hreset hheld params tail cmds n ((Nat.zero_add _).trans hparams) hentries

/-- Settles O10: the run to the check byte, then its take. -/
theorem messageAssembledOrDiscarded : Obligations.MessageAssembledOrDiscarded := by
  intro s code len check params rest cmds hreset hheld hassembler hinbound hparams hlength hparity hframing hgap hboundary
    hpending
  have hs : s = s.assembling (List.replicate (params.length + 3) .assemblerTake ++ cmds)
      (code :: len :: params ++ check :: rest) .waitCode := by
    rw [← hpending, ← hinbound, ← hassembler]
    rfl
  have hrun := run_to_check hreset hheld (check :: rest) cmds 1 hparams hlength hparity hframing hgap hboundary
  have hcheck := run_succ_of_step (step_assembling hreset hheld check rest cmds (.waitCheck (wholePartial code len params))) 0
  refine (congrArg (Sys2Proof.core.run _) hs).trans (hrun.trans (hcheck.trans (congrArg Host.Outcome.next ?_)))
  rw [wholePartial_gap check hgap, wholePartial_line check hparity hframing, wholePartial_sum]
  have hstays : ¬ (check.boundary = true ∧ Assembler.waitCode.truncates = true) := fun h => Bool.noConfusion h.2
  have hnoflag (x : Byte) : x ||| 0 = x := BitVec.or_zero
  rw [assembled_waitCheck, if_neg hstays, ite_self, hnoflag]
  rfl

end Sys2Proof.Machine
end

section
/-!
PROOFS, the shape of a step. What holds of the state that a body hands over holds of the state its command leaves; the events of the
link touch no table.
-/

namespace Sys2Proof.Machine

/-- What holds of the state that a body hands over, if it does not refuse. -/
def Verdict.Leads (P : State → Prop) : Verdict → Prop
  | .refuse _ => True
  | .done u _ => P u
  | .goesOn u => P u

section
variable {P Q : State → Prop}

/-- A body that is one check and then more leads where the rest does. -/
theorem Verdict.Leads.check {r : Result} {v : Verdict} {fails : Prop} [Decidable fails] (h : ¬ fails → v.Leads P) :
    (if fails then Verdict.refuse r else v).Leads P := by
  split
  · trivial
  · next passes => exact h passes

theorem Verdict.Leads.mono {v : Verdict} (h : v.Leads P) (hPQ : ∀ u, P u → Q u) : v.Leads Q := by
  cases v with
  | refuse r => trivial
  | done u data => exact hPQ u h
  | goesOn u => exact hPQ u h

theorem Step.Leads.mono {r : Step} (h : Step.Leads P r) (hPQ : ∀ t, P t → Q t) : Step.Leads Q r := by
  cases r with
  | next t => exact hPQ t h
  | fault f => trivial
  | refused r => trivial

/-- A promise about the tables survives a message command when its body keeps it: the take and the end of the execution touch LKI and
MDC alone. -/
theorem runCommand_keeps {s : State} {c : Command} {body : Message → State → Verdict} (hs : P s)
    (htaken : ∀ reply, P (s.taken reply)) (hfinish : ∀ u code r data, P u → P (State.endExecution u code r data))
    (hbody : ∀ m reply, s.Ready c m reply → c.lengthOk m.params = true → (body m (s.taken reply)).Leads P) :
    P (runCommand c body s) := by
  rcases runCommand_cases c body s with same | ⟨m, reply, ready⟩
  · exact same.symm ▸ hs
  · have refused (r : Result) : P (s.answered m reply r []) :=
      (State.endExecution_answered (s := s) (u := s.taken reply) rfl) ▸ hfinish _ m.code r [] (htaken reply)
    rw [runCommand_ready ready]
    split
    · next hlength =>
      have leads := hbody m reply ready hlength
      cases hverdict : body m (s.taken reply) with
      | refuse r => exact refused r
      | done u data => exact hfinish _ _ _ _ (hverdict ▸ leads : (Verdict.done u data).Leads P)
      | goesOn u => exact (hverdict ▸ leads : (Verdict.goesOn u).Leads P)
    · exact refused .badLen

end

/-- A command whose body refuses answers the refusal (R13). -/
theorem exec_refused {s : State} {c : Command} {m : Message} {reply : Bool} {r : Result} (ready : s.Ready c m reply)
    (hlength : c.lengthOk m.params = true) (hbody : c.body m (s.taken reply) = .refuse r) :
    exec c.instr s = .next (s.answered m reply r []) := by
  rw [exec_instr, runCommand_ready ready, if_pos hlength, hbody]

/-- A command carried out at its take answers OK (R14). -/
theorem exec_done {s u : State} {c : Command} {m : Message} {reply : Bool} {data : List Byte} (ready : s.Ready c m reply)
    (hlength : c.lengthOk m.params = true) (hbody : c.body m (s.taken reply) = .done u data)
    (hlki : u.lki = (s.taken reply).lki) : exec c.instr s = .next (u.answered m reply .ok data) := by
  rw [exec_instr, runCommand_ready ready, if_pos hlength, hbody, ← State.endExecution_answered hlki]

/-! ## Retirement in two parts -/

/-- Record `k` retired but for its place in the field queue (R63). -/
def State.withdraw (s : State) (k : Nat) : State :=
  let t := (s.unlink k).updSlot k (fun r => { r.endHighlight with state := .retiring, due := false })
  { t with
    ftb := { t.ftb with liveCount := t.ftb.liveCount - 1, retiringCount := t.ftb.retiringCount + 1 }
    alerts := t.alerts.filter (fun e => e.slot != k) }

theorem State.retire_eq (s : State) (k : Nat) :
    s.retire k = if ((s.withdraw k).slot k).queued then s.withdraw k else (s.withdraw k).enqueue k := rfl

/-! ## The events of the link -/

/-- `t` differs from `s` at most in LKI, MDC, the sticky flags and the RESET pin. -/
def State.LinkOnly (s t : State) : Prop :=
  t = { s with resetLow := t.resetLow, lki := t.lki, mdc := t.mdc, stu := t.stu }

theorem State.LinkOnly.refl (s : State) : s.LinkOnly s := rfl

theorem State.LinkOnly.trans {s t u : State} (hst : s.LinkOnly t) (htu : t.LinkOnly u) : s.LinkOnly u := by
  unfold State.LinkOnly at *
  rw [htu, hst]

theorem State.endExecution_linkOnly (s : State) (code : Byte) (r : Result) (data : List Byte) :
    s.LinkOnly (s.endExecution code r data) := rfl

theorem State.jobEnded_linkOnly (s : State) (k : Nat) : s.LinkOnly (s.jobEnded k) := by
  simp only [State.jobEnded]
  split
  · next m job slots hmdc =>
    generalize (if job then slots else slots.filter (· != k)) = rest
    split <;> rfl
  · rfl

/-- The events of the receiver, the assembler and the transmitter, and MDC's takes that name no command. -/
def linkEvent : Instr → Bool
  | .resetRelease _ | .settleEnd | .addressCharacter _ _ _ | .dataCharacter _ _ _ | .breakEvent | .assemblerTake => true
  | .discardNoticeTake | .unknownCommand | .replyStart _ | .replyEnd | .replyCutShort => true
  | .startBitFall | .falseStart | .awaitHighExit => true
  | _ => false

theorem rxStep_linkOnly (before next : RxState) (s : State) : s.LinkOnly (rxStep before next s) := by
  unfold rxStep
  split <;> rfl

theorem State.boundaryTest_linkOnly (s : State) : s.LinkOnly s.boundaryTest := by
  simp only [State.boundaryTest]
  split <;> rfl

theorem State.assemble_linkOnly (s : State) (e : InEntry) : s.LinkOnly (s.assemble e) := by
  unfold State.assemble
  split
  · rfl
  · split <;> rfl
  · rfl
  · simp only [State.completeMessage]
    split <;> rfl
  · rfl

/-- An event of the link touches no table and no part but LKI, MDC and STU. -/
theorem exec_linkOnly {i : Instr} (h : linkEvent i = true) (s : State) : Step.Leads s.LinkOnly (exec i s) := by
  cases i with
  | resetRelease strap =>
    simp only [exec, execResetRelease]
    split <;> exact .refl _
  | settleEnd => exact rxStep_linkOnly _ _ s
  | startBitFall => exact rxStep_linkOnly _ _ s
  | falseStart => exact rxStep_linkOnly _ _ s
  | awaitHighExit => exact rxStep_linkOnly _ _ s
  | addressCharacter v parity stop =>
    simp only [exec, execAddressCharacter]
    split
    · rw [State.addressReceived_eq]
      rfl
    · exact .refl _
  | dataCharacter v parity stop =>
    simp only [exec, execDataCharacter, State.dataReceived]
    split
    · split
      · rfl
      · split <;> rfl
    · exact .refl _
  | breakEvent =>
    simp only [exec, execBreak]
    split <;> rfl
  | assemblerTake =>
    simp only [exec, execAssemblerTake]
    split
    · next e rest hinbound =>
      split
      · have taken : s.LinkOnly (({ s with lki := { s.lki with inbound := rest } } : State).assemble e) :=
          .trans (t := { s with lki := { s.lki with inbound := rest } }) rfl (State.assemble_linkOnly _ e)
        split
        · exact taken.trans (State.boundaryTest_linkOnly _)
        · exact taken
      · exact .refl _
    · exact .refl _
  | discardNoticeTake =>
    simp only [exec, execDiscardNoticeTake]
    split
    · split <;> rfl
    · exact .refl _
  | unknownCommand =>
    simp only [exec, execUnknownCommand]
    split
    · split <;> rfl
    · exact .refl _
  | replyStart high =>
    simp only [exec, execReplyStart]
    split
    · split
      · split <;> rfl
      · exact .refl _
    · exact .refl _
  | replyEnd =>
    simp only [exec, execReplyEnd]
    split
    · split <;> rfl
    · exact .refl _
  | replyCutShort =>
    simp only [exec, execReplyCutShort]
    split <;> rfl
  | _ => exact absurd h Bool.false_ne_true

end Sys2Proof.Machine
end

section
/-!
PROOFS, the canonical form of tables (O51). Every table is written by `Table.set` alone, so each operation keeps the form of every
table it writes.
-/

namespace Sys2Proof.Machine

namespace State.TablesCanonical

variable {s : State}

/-- What touches no table keeps the form of all of them. -/
theorem linkOnly {t : State} (h : s.TablesCanonical) (hst : s.LinkOnly t) : t.TablesCanonical := by
  rw [show t = _ from hst]
  exact { h with }

theorem enqueue (h : s.TablesCanonical) (k : Nat) : (s.enqueue k).TablesCanonical :=
  { h with slots := Table.set_wf h.slots }

theorem foldl {β : Type} {f : State → β → State} (keeps : ∀ (t : State) b, t.TablesCanonical → (f t b).TablesCanonical)
    (l : List β) (h : s.TablesCanonical) : (l.foldl f s).TablesCanonical :=
  List.foldlRecOn l f h fun t ht b _ => keeps t b ht

theorem joinGroup (h : s.TablesCanonical) (due : List Nat) : (s.joinGroup due).TablesCanonical :=
  foldl (fun _ k ht => ht.becomeDue k) _ h

/-! ### Ticks (chapter 4) -/

theorem enterAlert (h : s.TablesCanonical) (e : AlertEntry) : (s.enterAlert e).TablesCanonical := by
  unfold State.enterAlert
  split
  · exact { h with }
  · split <;> exact { h with }

theorem evaluateBand (h : s.TablesCanonical) (k : Nat) : (s.evaluateBand k).TablesCanonical := by
  simp only [State.evaluateBand]
  split
  · exact (h.setSlot k _).enterAlert _
  · exact h.setSlot k _

theorem applyValue (h : s.TablesCanonical) (k : Nat) (v : Int) (d : Direction) : (s.applyValue k v d).TablesCanonical :=
  (h.updSlot k _).evaluateBand k

theorem freshen {a : TickAcc} (h : a.state.TablesCanonical) (k : Nat) : (a.freshen k).state.TablesCanonical :=
  h.updSlot k fun r => { r with stale := false }

/-- A fold over what a tick has done so far. -/
theorem foldl_acc {f : TickAcc → Nat → TickAcc}
    (keeps : ∀ a k, a.state.TablesCanonical → (f a k).state.TablesCanonical) (l : List Nat) {a : TickAcc}
    (h : a.state.TablesCanonical) : (l.foldl f a).state.TablesCanonical :=
  List.foldlRecOn (motive := fun a => a.state.TablesCanonical) l f h fun a ha k _ => keeps a k ha

theorem fanNet {a : TickAcc} (h : a.state.TablesCanonical) (v : Int) (k : Nat) : (fanNet v a k).state.TablesCanonical := by
  simp only [Machine.fanNet]
  split
  · exact (h.updSlot k _).applyValue k _ _
  · exact (h.updSlot k fun r => { r with lastOperand := some v }).updSlot k fun r => { r with stale := false }

theorem fanHigh {a : TickAcc} (h : a.state.TablesCanonical) (v : Int) (k : Nat) : (fanHigh v a k).state.TablesCanonical := by
  unfold Machine.fanHigh
  split
  · exact h.applyValue k _ _
  · split
    · exact h.applyValue k _ _
    · exact h.freshen k

theorem fanLow {a : TickAcc} (h : a.state.TablesCanonical) (v : Int) (k : Nat) : (fanLow v a k).state.TablesCanonical := by
  unfold Machine.fanLow
  split
  · exact h.applyValue k _ _
  · split
    · exact h.applyValue k _ _
    · exact h.freshen k

theorem fanOut {a : TickAcc} (h : a.state.TablesCanonical) (u : State) (instrument : Nat) (v : Int) :
    (fanOut u instrument v a).state.TablesCanonical :=
  foldl_acc (fun _ k ha => ha.fanLow v k) _
    (foldl_acc (fun _ k ha => ha.fanHigh v k) _ (foldl_acc (fun _ k ha => ha.fanNet v k) _ h))

theorem clearGuard (h : s.TablesCanonical) (mirrors : List Nat) : (s.clearGuard mirrors).TablesCanonical := by
  cases mirrors with
  | nil => exact h
  | cons lead others => exact foldl (fun _ k ht => ht.updSlot k _) _ (h.updSlot lead _)

theorem holdPrint (h : s.TablesCanonical) (lead : Nat) (mirrors : List Nat) (v : Int) :
    (s.holdPrint lead mirrors v).TablesCanonical :=
  { foldl (fun _ k ht => ht.updSlot k _) mirrors (h.updSlot lead _) with }

theorem acceptTick {a : TickAcc} (h : a.state.TablesCanonical) (instrument : Nat) (kind : Kind) (v : Int) (d : Direction) :
    (acceptTick a instrument kind v d).state.TablesCanonical := by
  have applied := foldl_acc (fun a k ha => ha.applyValue k v d) (f := fun a k => a.apply k v d)
    (a.state.mirrors instrument kind) (a := { a with state := a.state.clearGuard (a.state.mirrors instrument kind) })
    (h.clearGuard _)
  simp only [Machine.acceptTick]
  split
  · exact applied.fanOut _ _ _
  · exact applied

theorem evaluateTick {a : TickAcc} (h : a.state.TablesCanonical) (instrument : Nat) (kind : Kind) (value : Int) :
    (evaluateTick a instrument kind value).2.state.TablesCanonical := by
  have accepted (v : Int) (d : Direction) := acceptTick (a := { a with updated := 0 }) h instrument kind v d
  simp only [Machine.evaluateTick]
  split
  · split
    · exact accepted _ _
    · exact h
  · split
    · exact h.holdPrint _ _ _
    · exact accepted _ _

theorem evaluateTicks (instrument : Nat) (values : List (Kind × Int)) {a : TickAcc} (h : a.state.TablesCanonical)
    (out : List Byte) : (evaluateTicks instrument values a out).1.state.TablesCanonical := by
  induction values generalizing a out with
  | nil => exact h
  | cons value rest ih => exact ih (h.evaluateTick instrument value.1 value.2) _

/-! ### Binding, retiring, freezing and moving (chapters 3 and 6) -/

theorem bindApply (h : s.TablesCanonical) (b : Binding) : (bindApply b s).TablesCanonical := by
  refine becomeDue (claimAll ?_ _ _) _
  exact { (h.setSlot b.slot (b.valued s)).setChain _ _ with }

theorem unlink (h : s.TablesCanonical) (k : Nat) : (s.unlink k).TablesCanonical := by
  simp only [State.unlink]
  split
  · exact h.setChain _ _
  · split
    · split
      · exact (h.setChain _ _).updSlot k _
      · exact ((h.setChain _ _).updSlot k _).updSlot _ _
    · exact h.setChain _ _

theorem retire (h : s.TablesCanonical) (k : Nat) : (s.retire k).TablesCanonical := by
  have withdrawn : (s.withdraw k).TablesCanonical := 
    { (h.unlink k).updSlot k (fun r => { r.endHighlight with state := .retiring, due := false }) with }
  rw [State.retire_eq]
  split
  · exact withdrawn
  · exact withdrawn.enqueue k

theorem panelClose (h : s.TablesCanonical) (p : Nat) : (panelClose p s).TablesCanonical :=
  (foldl (fun _ k ht => ht.retire k) _ h).setPanel p none

theorem panelFreeze (h : s.TablesCanonical) (p : Nat) (e : Panel) : (panelFreeze p e s).TablesCanonical := by
  unfold Machine.panelFreeze
  split
  · exact h
  · exact foldl (f := State.defer) (fun _ k ht => { ht with slots := Table.set_wf ht.slots }) _ (h.setPanel p _)

theorem panelThaw (h : s.TablesCanonical) (p : Nat) (e : Panel) : (panelThaw p e s).TablesCanonical := by
  unfold Machine.panelThaw
  split
  · exact foldl (fun t k ht => (ht.updSlot k fun r => { r with due := false }).enqueue k) _ (h.setPanel p _)
  · exact h

theorem reclaim (h : s.TablesCanonical) (k : Nat) : (s.reclaim k).TablesCanonical := by
  unfold State.reclaim
  split
  · exact h
  · exact ((h.updSlot k _).claimAll k _).becomeDue k

theorem moveNext (m : Message) (p cleared : Nat) (records : List Nat) (h : s.TablesCanonical) :
    (moveNext m p cleared records s).TablesCanonical := by
  induction records generalizing s with
  | nil => exact { h with }
  | cons k rest ih =>
    unfold Machine.moveNext
    split
    · exact ih (h.reclaim k)
    · exact { h with }

theorem panelMove (h : s.TablesCanonical) (m : Message) (p : Nat) (e : Panel) (page row col : Nat) :
    (panelMove m p e page row col s).TablesCanonical := by
  unfold Machine.panelMove
  exact moveNext m p _ _ (h.setPanel p _)

theorem ageAll (h : s.TablesCanonical) : s.ageAll.TablesCanonical := by
  unfold State.ageAll
  generalize allSlots.filter (fun k => 0 < (s.slot k).age) = running
  exact { foldl (f := fun t k => t.updSlot k (fun r => r.aged s.agu.owed)) (fun _ k ht => ht.updSlot k _) running h with }

/-! ### Grants and the Painter (chapters 8 and 10) -/

theorem clearEnded (h : s.TablesCanonical) (k : Nat) : (s.clearEnded k).TablesCanonical := by
  refine linkOnly ?_ (State.jobEnded_linkOnly _ k)
  exact { h.setSlot k Record.empty with }

theorem takeClear (h : s.TablesCanonical) (k : Nat) : (s.takeClear k).TablesCanonical := by
  unfold State.takeClear
  split
  · exact h.clearEnded k
  · exact { h with }

theorem takeLive (h : s.TablesCanonical) (k : Nat) : (s.takeLive k).TablesCanonical := by
  simp only [State.takeLive]
  split
  · exact { h with slots := Table.set_wf h.slots }
  · exact { h with }

theorem paintEnded (h : s.TablesCanonical) (k : Nat) (string : List Byte) : (s.paintEnded k string).TablesCanonical := by
  refine linkOnly ?_ (State.jobEnded_linkOnly _ k)
  exact { h with slots := Table.set_wf h.slots }

theorem paintWrite (h : s.TablesCanonical) (k : Nat) (w : CellWrite) : (s.paintWrite k w).TablesCanonical := by
  unfold State.paintWrite
  split
  · exact h.writeCell w
  · exact h

theorem clearWrite (h : s.TablesCanonical) (k : Nat) (w : CellWrite) : (s.clearWrite k w).TablesCanonical := by
  unfold State.clearWrite
  split
  · exact (h.writeCell w).setClaim _ _
  · exact h

theorem vacate (h : s.TablesCanonical) (k : Nat) (w : CellWrite) : (s.vacate k w).TablesCanonical := by
  unfold State.vacate
  split
  · exact (h.writeCell w).setClaim _ _
  · exact h

theorem textWrite (h : s.TablesCanonical) (w : CellWrite) : (s.textWrite w).TablesCanonical := by
  unfold State.textWrite
  split
  · exact h.writeCell w
  · exact h

/-! ### Every step -/

theorem startWriting (h : s.TablesCanonical) (m : Message) (ws : List CellWrite) :
    (startWriting m ws s).Leads State.TablesCanonical := by
  cases ws with
  | nil => exact h
  | cons w ws => exact { h with }

/-- The body of a command keeps the form of every table. -/
theorem body (h : s.TablesCanonical) (c : Command) (m : Message) : (c.body m s).Leads State.TablesCanonical := by
  cases c with
  | bind =>
    simp only [Command.body, bindBody]
    split
    · trivial
    · exact h.bindApply _
  | amend =>
    simp only [Command.body, amendBody]
    split
    · trivial
    · exact ((h.updSlot _ _).evaluateBand _).becomeDue _
  | retire =>
    refine .check fun _ => ?_
    split
    · exact h.retire _
    · trivial
  | lookup =>
    refine .check fun _ => ?_
    split
    · trivial
    · split
      · trivial
      · exact h
  | probe =>
    refine .check fun _ => ?_
    split <;> exact h
  | tick =>
    refine .check fun _ => ?_
    split
    · trivial
    · exact .check fun _ => (evaluateTick (a := ⟨s, [], 0⟩) h _ _ _).joinGroup _
  | qtick =>
    exact .check fun _ => .check fun _ => .check fun _ => (evaluateTicks _ _ (a := ⟨s, [], 0⟩) h _).joinGroup _
  | refer =>
    exact .check fun _ => .check fun _ => (foldl (fun _ k ht => (ht.updSlot k _).evaluateBand k) _ h).joinGroup _
  | extremesClear =>
    exact .check fun _ => (foldl (fun _ k ht => (ht.updSlot k _).evaluateBand k) _ h).joinGroup _
  | stale => exact .check fun _ => (foldl (fun _ k ht => ht.updSlot k _) _ h).joinGroup _
  | alerts => exact .check fun _ => { h with }
  | panelOpen =>
    refine .check fun _ => .check fun _ => .check fun _ => .check fun _ => ?_
    split
    · trivial
    · exact .check fun _ => .check fun _ => h.setPanel _ _
  | panelClose => exact .check fun _ => .check fun _ => h.panelClose _
  | panelFreeze =>
    refine .check fun _ => ?_
    split
    · trivial
    · exact h.panelFreeze _ _
  | panelThaw =>
    refine .check fun _ => ?_
    split
    · trivial
    · exact h.panelThaw _ _
  | panelMove =>
    simp only [Command.body, panelMoveBody]
    refine .check fun _ => .check fun _ => ?_
    split
    · trivial
    · generalize (s.panelRecords (u8 m.params 0)).any _ = collides
      refine .check fun _ => .check fun _ => .check fun _ => ?_
      exact h.panelMove m _ _ _ _ _
  | attrSet =>
    exact .check fun _ => .check fun _ => .check fun _ => .check fun _ => { h with attrs := Table.set_wf h.attrs }
  | schemeSet =>
    simp only [Command.body, schemeSetBody]
    split
    · trivial
    · exact .check fun _ => .check fun _ => (h.setScheme _ _ _).joinGroup _
  | schemeSwap => exact joinGroup (s := s.swapBanks) { h with bankA := h.bankB, bankB := h.bankA } _
  | text =>
    simp only [Command.body, textBody]
    split
    · trivial
    · exact .check fun _ => .check fun _ => h.startWriting m _
  | fill =>
    simp only [Command.body, fillBody]
    split
    · trivial
    · exact .check fun _ => .check fun _ => .check fun _ => h.startWriting m _
  | showPage => exact .check fun _ => { h with }
  | pattern => exact .check fun _ => { h with }
  | glyphLoad => exact .check fun _ => { h with glyphs := Table.set_wf h.glyphs }
  | status => exact { h with }
  | config => exact .check fun _ => { h with }
  | sync =>
    simp only [Command.body, syncBody]
    split
    · exact h
    · exact { h with }

theorem command (h : s.TablesCanonical) (c : Command) : Step.Leads State.TablesCanonical (exec c.instr s) := by
  rw [exec_instr]
  exact runCommand_keeps h (fun _ => { h with }) (fun _ _ _ _ hu => { hu with })
    fun m reply _ _ => body (s := s.taken reply) { h with } c m

theorem execPainterTake (h : s.TablesCanonical) : Step.Leads State.TablesCanonical (execPainterTake s) := by
  unfold Machine.execPainterTake
  split
  · next k rest hqueue =>
    split
    · have taken : ({ s.updSlot k (fun r => { r with queued := false }) with
          ptr := { s.ptr with queue := rest } } : State).TablesCanonical := { h with slots := Table.set_wf h.slots }
      split
      · exact taken.takeLive k
      · exact taken.takeClear k
      · trivial
    · exact h
  · exact h

theorem execPaintWriteGrant (h : s.TablesCanonical) : Step.Leads State.TablesCanonical (execPaintWriteGrant s) := by
  unfold Machine.execPaintWriteGrant
  split
  · next k sn bank string w ws hpainter =>
    split
    · have written : ((s.paintWrite k w).setMark .ptr).TablesCanonical := { h.paintWrite k w with }
      dsimp only
      split
      · exact written.paintEnded k string
      · exact { written with }
    · exact h
  · exact h

theorem execClearWriteGrant (h : s.TablesCanonical) : Step.Leads State.TablesCanonical (execClearWriteGrant s) := by
  unfold Machine.execClearWriteGrant
  split
  · next k w ws hpainter =>
    split
    · have written : ((s.clearWrite k w).setMark .ptr).TablesCanonical := { h.clearWrite k w with }
      dsimp only
      split
      · exact written.clearEnded k
      · exact { written with }
    · exact h
  · exact h

theorem execTextWriteGrant (h : s.TablesCanonical) : Step.Leads State.TablesCanonical (execTextWriteGrant s) := by
  unfold Machine.execTextWriteGrant
  split
  · next m w ws hmdc =>
    split
    · have written : ((s.textWrite w).setMark .mdc).TablesCanonical := { h.textWrite w with }
      dsimp only
      split <;> exact { written with }
    · exact h
  · exact h

theorem execVacateWriteGrant (h : s.TablesCanonical) : Step.Leads State.TablesCanonical (execVacateWriteGrant s) := by
  unfold Machine.execVacateWriteGrant
  split
  · next m p cleared k w ws rest hmdc =>
    split
    · have written : ((s.vacate k w).setMark .mdc).TablesCanonical := { h.vacate k w with }
      dsimp only
      split
      · exact moveNext m p cleared rest (written.reclaim k)
      · exact { written with }
    · exact h
  · exact h

theorem execFrameStart (h : s.TablesCanonical) : Step.Leads State.TablesCanonical (execFrameStart s) := by
  unfold Machine.execFrameStart
  split
  · exact h
  · unfold State.oweSweep
    split <;> exact { h with frameAttrs := h.attrs, frameGlyphs := h.glyphs }

theorem execRowRead (h : s.TablesCanonical) : Step.Leads State.TablesCanonical (execRowRead s) := by
  unfold Machine.execRowRead
  split
  · split
    · exact { h with }
    · exact h
  · exact h

theorem execSweep (h : s.TablesCanonical) : Step.Leads State.TablesCanonical (execSweep s) := by
  unfold Machine.execSweep
  split
  · exact h.ageAll.joinGroup _
  · exact h

theorem exec (h : s.TablesCanonical) (i : Instr) : Step.Leads State.TablesCanonical (exec i s) := by
  have link (hi : linkEvent i = true) : Step.Leads State.TablesCanonical (Machine.exec i s) :=
    (exec_linkOnly hi s).mono fun _ => h.linkOnly
  cases i with
  | powerOnReset => exact { State.reset_canonical with }
  | bind => exact h.command .bind
  | amend => exact h.command .amend
  | retire => exact h.command .retire
  | lookup => exact h.command .lookup
  | probe => exact h.command .probe
  | tick => exact h.command .tick
  | qtick => exact h.command .qtick
  | refer => exact h.command .refer
  | extremesClear => exact h.command .extremesClear
  | stale => exact h.command .stale
  | alerts => exact h.command .alerts
  | panelOpen => exact h.command .panelOpen
  | panelClose => exact h.command .panelClose
  | panelFreeze => exact h.command .panelFreeze
  | panelThaw => exact h.command .panelThaw
  | panelMove => exact h.command .panelMove
  | attrSet => exact h.command .attrSet
  | schemeSet => exact h.command .schemeSet
  | schemeSwap => exact h.command .schemeSwap
  | text => exact h.command .text
  | fill => exact h.command .fill
  | showPage => exact h.command .showPage
  | pattern => exact h.command .pattern
  | glyphLoad => exact h.command .glyphLoad
  | status => exact h.command .status
  | config => exact h.command .config
  | sync => exact h.command .sync
  | vacateWriteGrant => exact h.execVacateWriteGrant
  | textWriteGrant => exact h.execTextWriteGrant
  | painterTake => exact h.execPainterTake
  | paintWriteGrant => exact h.execPaintWriteGrant
  | clearWriteGrant => exact h.execClearWriteGrant
  | frameStart => exact h.execFrameStart
  | rowRead => exact h.execRowRead
  | sweep => exact h.execSweep
  | _ => exact link rfl

end State.TablesCanonical

/-- Settles O51: the form is inductive by itself. -/
theorem tablesStayCanonical : Obligations.TablesStayCanonical := by
  intro s t h hstep
  unfold step at hstep
  split at hstep
  · exact Host.Outcome.next.inj hstep ▸ h
  · next i rest hpending =>
    exact (State.TablesCanonical.exec (s := { s with pending := rest }) { h with } i).next hstep

end Sys2Proof.Machine
end

section
/-!
PROOFS, retirement (R63, R64, R41). What RETIRE does to every record, chain and list, said once.
-/

namespace Sys2Proof.Machine

/-! ## The Key Index -/

theorem State.lead_eq_head? (s : State) (instrument : Nat) (kind : Kind) :
    s.lead instrument kind = (s.mirrors instrument kind).head? := rfl

theorem State.isLive_iff (s : State) (k : Nat) : s.isLive k = true ↔ (s.slot k).state = .live := by
  simp [State.isLive]

/-- The mirrors of a key are its LIVE records (R36, R38). -/
theorem State.ChainsSound.mem_mirrors {s : State} (h : s.ChainsSound) {instrument : Nat} {kind : Kind} {k : Nat} :
    k ∈ s.mirrors instrument kind ↔
      s.isLive k = true ∧ (s.slot k).instrument = instrument ∧ (s.slot k).kind = kind := by
  simp only [State.mirrors, List.mem_filter, h.members, Bool.and_eq_true, beq_iff_eq]
  constructor
  · rintro ⟨_, ⟨live, hi⟩, hk⟩
    exact ⟨live, hi, hk⟩
  · rintro ⟨live, hi, hk⟩
    exact ⟨⟨live, by rw [hi, hk]⟩, ⟨live, hi⟩, hk⟩

theorem State.ChainsSound.mirrors_nodup {s : State} (h : s.ChainsSound) (instrument : Nat) (kind : Kind) :
    (s.mirrors instrument kind).Nodup := (h.nodup _).filter _

/-- A slot outside every chain but its own leaves all of them when it leaves its own. -/
theorem State.ChainsSound.filter_chain {s : State} (h : s.ChainsSound) {k b : Nat}
    (hb : b ≠ bucketOf (s.slot k).instrument (s.slot k).kind) : (s.chain b).filter (· != k) = s.chain b := by
  refine List.filter_eq_self.2 fun j hj => bne_iff_ne.2 ?_
  rintro rfl
  exact hb ((h.members b j).1 hj).2.symm

/-! ## Retirement -/

/-- The record in slot `k` is the lead of its key (R38). -/
def State.leads (s : State) (k : Nat) : Bool := s.lead (s.slot k).instrument (s.slot k).kind == some k

/-- The mirror that takes over the guard state when slot `k` leaves its chain (R41). -/
def State.heir (s : State) (k : Nat) : Option Nat :=
  if s.leads k then (s.mirrors (s.slot k).instrument (s.slot k).kind).tail.head? else none

theorem State.heir_eq_some_iff (s : State) (k j : Nat) : s.heir k = some j ↔
    s.leads k = true ∧ (s.mirrors (s.slot k).instrument (s.slot k).kind).tail.head? = some j := by
  simp [State.heir]

/-- A record out of its chain: a lead gives its guard state away (R41). -/
def Record.unguarded (r : Record) (led : Bool) : Record :=
  { r with
    suspectValue := if led then none else r.suspectValue
    holdCount := if led then 0 else r.holdCount }

/-- The guard state of record `r` taken over (R41). -/
def Record.inheriting (x r : Record) : Record := { x with suspectValue := r.suspectValue, holdCount := r.holdCount }

/-- A record withdrawn: RETIRING, with no highlight and not due (R63). -/
def Record.withdrawn (r : Record) : Record := { r.endHighlight with state := .retiring, due := false }

/-- Unlinking in three parts: the chain, the guard state of a leaving lead, and its hand-over to the heir (R35, R41). -/
theorem State.unlink_eq (s : State) (k : Nat) :
    s.unlink k =
      let bucket := bucketOf (s.slot k).instrument (s.slot k).kind
      let t := s.setChain bucket ((s.chain bucket).filter (· != k))
      let t := if s.leads k then t.updSlot k (fun r => r.unguarded true) else t
      match s.heir k with
      | none => t
      | some next => t.updSlot next (fun r => r.inheriting (s.slot k)) := by
  simp only [State.unlink]
  split
  · next hm => simp [State.heir, State.leads, State.lead_eq_head?, hm]
  · next lead others hm =>
    by_cases hlead : lead = k
    · cases others <;> simp [State.heir, State.leads, State.lead_eq_head?, hm, hlead] <;> rfl
    · simp [State.heir, State.leads, State.lead_eq_head?, hm, hlead]

section
variable {s : State} (h : s.ChainsSound) (k : Nat)
include h

/-- The heir is another slot: a chain holds each slot once. -/
theorem State.heir_ne {j : Nat} (hj : s.heir k = some j) : j ≠ k := by
  have nodup := h.mirrors_nodup (s.slot k).instrument (s.slot k).kind
  simp only [State.heir, State.leads, State.lead_eq_head?] at hj
  cases hm : s.mirrors (s.slot k).instrument (s.slot k).kind with
  | nil => simp [hm] at hj
  | cons lead others =>
    simp only [hm, List.head?_cons, List.tail_cons, beq_iff_eq, Option.some.injEq] at hj nodup
    split at hj
    · next hlead =>
      rintro rfl
      exact (List.nodup_cons.1 nodup).1 (hlead ▸ List.mem_of_head? hj)
    · cases hj

theorem State.unlink_slot (j : Nat) : (s.unlink k).slot j =
    if j = k then (s.slot k).unguarded (s.leads k)
    else if s.heir k = some j then (s.slot j).inheriting (s.slot k) else s.slot j := by
  have unguarded (i : Nat) :
      (if s.leads k then (s.setChain (bucketOf (s.slot k).instrument (s.slot k).kind)
          ((s.chain (bucketOf (s.slot k).instrument (s.slot k).kind)).filter (· != k))).updSlot k (fun r => r.unguarded true)
        else (s.setChain (bucketOf (s.slot k).instrument (s.slot k).kind)
          ((s.chain (bucketOf (s.slot k).instrument (s.slot k).kind)).filter (· != k)))).slot i
        = if i = k then (s.slot k).unguarded (s.leads k) else s.slot i := by
    split
    · next hled => rw [State.slot_updSlot, hled]; rfl
    · next hled =>
      split
      · next hi => subst hi; simp only [hled]; rfl
      · rfl
  rw [State.unlink_eq]
  cases hn : s.heir k with
  | none => simpa using unguarded j
  | some next =>
    have hne : next ≠ k := State.heir_ne h k hn
    simp only [State.slot_updSlot, unguarded, if_neg hne, Option.some.injEq]
    by_cases hj : j = next
    · subst hj; simp [hne]
    · simp [hj, Ne.symm hj]

/-- Unlinking leaves every chain without the slot. -/
theorem State.unlink_chain (b : Nat) : (s.unlink k).chain b = (s.chain b).filter (· != k) := by
  have base : (s.unlink k).chain b
      = (s.setChain (bucketOf (s.slot k).instrument (s.slot k).kind)
          ((s.chain (bucketOf (s.slot k).instrument (s.slot k).kind)).filter (· != k))).chain b := by
    rw [State.unlink_eq]
    refine State.chain_of_chains ?_ b
    cases s.heir k <;> cases s.leads k <;> rfl
  rw [base, State.chain_setChain]
  split
  · next hb => rw [hb]
  · next hb => exact (h.filter_chain hb).symm

end

/-- Unlinking touches the slots and the chains alone. -/
theorem State.unlink_frame (s : State) (k : Nat) :
    s.unlink k = { s with ftb := { s.ftb with slots := (s.unlink k).ftb.slots, chains := (s.unlink k).ftb.chains } } := by
  rw [State.unlink_eq]
  cases s.heir k <;> cases s.leads k <;> rfl

theorem State.slot_enqueue (s : State) (k j : Nat) :
    (s.enqueue k).slot j = if j = k then { s.slot k with queued := true } else s.slot j :=
  s.slot_updSlot k (fun r => { r with queued := true }) j

theorem State.withdraw_slot {s : State} (h : s.ChainsSound) (k j : Nat) : (s.withdraw k).slot j =
    if j = k then ((s.slot k).unguarded (s.leads k)).withdrawn
    else if s.heir k = some j then (s.slot j).inheriting (s.slot k) else s.slot j := by
  have base : (s.withdraw k).slot j = ((s.unlink k).updSlot k Record.withdrawn).slot j := rfl
  rw [base, State.slot_updSlot]
  split
  · rw [State.unlink_slot h, if_pos rfl]
  · next hj => rw [State.unlink_slot h, if_neg hj]

/-- What retirement leaves in every slot: the record RETIRING and queued, its heir with the guard state, all others as they were. -/
theorem State.retire_slot {s : State} (h : s.ChainsSound) (k j : Nat) : (s.retire k).slot j =
    if j = k then { ((s.slot k).unguarded (s.leads k)).withdrawn with queued := true }
    else if s.heir k = some j then (s.slot j).inheriting (s.slot k) else s.slot j := by
  have withdrawn := State.withdraw_slot h k
  rw [State.retire_eq]
  split
  · next hqueued =>
    rw [withdrawn]
    split
    · rw [withdrawn, if_pos rfl] at hqueued
      exact congrArg (fun q => { ((s.slot k).unguarded (s.leads k)).withdrawn with queued := q }) hqueued
    · rfl
  · rw [State.slot_enqueue]
    split
    · rw [withdrawn, if_pos rfl]
    · next hj => rw [withdrawn, if_neg hj]

theorem State.retire_chain {s : State} (h : s.ChainsSound) (k b : Nat) :
    (s.retire k).chain b = (s.chain b).filter (· != k) := by
  rw [← State.unlink_chain h]
  refine State.chain_of_chains ?_ b
  rw [State.retire_eq]
  split <;> rfl

/-- What else retirement touches: the counts, the alert list and, for a record not yet queued, the field queue. -/
theorem State.retire_frame {s : State} (h : s.ChainsSound) (k : Nat) :
    s.retire k = { s with
      ftb := { s.ftb with
        slots := (s.retire k).ftb.slots, chains := (s.retire k).ftb.chains
        liveCount := s.ftb.liveCount - 1, retiringCount := s.ftb.retiringCount + 1 }
      alerts := s.alerts.filter (fun e => e.slot != k)
      ptr := { s.ptr with queue := if (s.slot k).queued then s.ptr.queue else s.ptr.queue ++ [k] } } := by
  have withdrawn : s.withdraw k = { s with
      ftb := { s.ftb with
        slots := (s.withdraw k).ftb.slots, chains := (s.withdraw k).ftb.chains
        liveCount := s.ftb.liveCount - 1, retiringCount := s.ftb.retiringCount + 1 }
      alerts := s.alerts.filter (fun e => e.slot != k) } := by
    unfold State.withdraw
    rw [s.unlink_frame k]
    rfl
  have hqueued : ((s.withdraw k).slot k).queued = (s.slot k).queued := by rw [State.withdraw_slot h, if_pos rfl]; rfl
  rw [State.retire_eq, hqueued]
  split
  · exact withdrawn
  · exact (congrArg (State.enqueue · k) withdrawn).trans (by rw [withdrawn]; rfl)

/-! ## RETIRE -/

/-- Settles O21: the body's checks, then what retirement leaves. -/
theorem retireWithdrawsRecord : Obligations.RetireWithdrawsRecord := by
  intro s a b reply chains ready
  have h : (s.taken reply).ChainsSound := { chains with }
  have body : Command.retire.body ⟨0x12, [a, b]⟩ (s.taken reply) =
      if 1023 < a.toNat * 256 + b.toNat then .refuse .badArg
      else if s.isLive (a.toNat * 256 + b.toNat) then .done ((s.taken reply).retire (a.toNat * 256 + b.toNat)) []
      else .refuse .notLive := rfl
  refine ⟨fun hbad => ?_, fun hk hstate => ?_, fun hk hstate => ⟨(s.taken reply).retire _, ?_, rfl, ?_, fun j hj => ?_,
      State.retire_chain h _, State.retire_frame h _⟩⟩
  · exact exec_refused ready rfl (by rw [body, if_pos hbad])
  · exact exec_refused ready rfl (by rw [body, if_neg (by omega), if_neg (by rwa [State.isLive_iff])])
  · exact exec_done ready rfl (by rw [body, if_neg (by omega), if_pos (by rwa [State.isLive_iff])])
      ((s.taken reply).retire_recordsOnly _).lki
  · rw [State.retire_slot h, if_pos rfl]
    rfl
  · rw [State.retire_slot h, if_neg hj]
    simp only [State.heir_eq_some_iff]
    rfl

end Sys2Proof.Machine
end

section
/-!
PROOFS, binding (Table 3-3, R50 to R59). The checks of BIND and AMEND against the tables of checks; what BIND does to every record,
chain, claim and count, said once.
-/

namespace Sys2Proof.Machine

/-! ## Lists of checks -/

@[simp] theorem firstRefusal_nil : firstRefusal [] = none := rfl

@[simp] theorem firstRefusal_cons (fails : Bool) (r : Result) (rest : List (Bool × Result)) :
    firstRefusal ((fails, r) :: rest) = if fails then some r else firstRefusal rest := rfl

theorem firstRefusal_append (first rest : List (Bool × Result)) :
    firstRefusal (first ++ rest) = (firstRefusal first).or (firstRefusal rest) := by
  induction first with
  | nil => rfl
  | cons check first ih =>
    obtain ⟨fails, r⟩ := check
    cases fails <;> simp [ih]

/-- Nothing is refused exactly when every check passes. -/
theorem firstRefusal_eq_none_iff (checks : List (Bool × Result)) :
    firstRefusal checks = none ↔ ∀ check ∈ checks, check.1 = false := by
  induction checks with
  | nil => simp
  | cons check checks ih =>
    obtain ⟨fails, r⟩ := check
    cases fails <;> simp [ih]

/-! ## Coded bytes -/

theorem FormatMode.ofNumber_eq (n : Nat) :
    FormatMode.ofNumber n = if 2 < n then none else some (if n = 0 then .dec else if n = 1 then .frac else .count) := by
  match n with
  | 0 | 1 | 2 => rfl
  | n + 3 => rw [if_pos (by omega)]; rfl

theorem BandMode.ofNumber_eq (n : Nat) :
    BandMode.ofNumber n = if 2 < n then none else some (if n = 0 then .off else if n = 1 then .inside else .outside) := by
  match n with
  | 0 | 1 | 2 => rfl
  | n + 3 => rw [if_pos (by omega)]; rfl

/-- A number names at most the kind that has it. -/
theorem Kind.ofNumber_eq_some_iff (n : Nat) (k : Kind) : Kind.ofNumber n = some k ↔ n = k.number := by
  constructor
  · intro h
    match n with
    | 0 | 1 | 2 | 3 | 4 | 5 | 6 => cases h; rfl
    | n + 7 => cases h
  · rintro rfl
    cases k <;> rfl

theorem Kind.ofNumber_eq_none_iff (n : Nat) : Kind.ofNumber n = none ↔ 6 < n := by
  match n with
  | 0 | 1 | 2 | 3 | 4 | 5 | 6 => simp [Kind.ofNumber]
  | n + 7 => simp [Kind.ofNumber]

theorem instrumentOk_iff (n : Nat) : instrumentOk n = true ↔ 1 ≤ n ∧ n ≤ 1048575 := by simp [instrumentOk]

/-! ## Settings (R51) -/

/-- The source precision range of a mode, against the check of the mode's number (R51). -/
theorem sourceOk_eq {mode source : Nat} (h : mode ≤ 2) :
    decide (mode = 0 ∧ 6 < source ∨ mode = 1 ∧ (source = 0 ∨ 8 < source) ∨ mode = 2 ∧ source ≠ 0)
      = !sourceOk (if mode = 0 then .dec else if mode = 1 then .frac else .count) source := by
  rw [Bool.eq_iff_iff]
  obtain rfl | rfl | rfl : mode = 0 ∨ mode = 1 ∨ mode = 2 := by omega
  all_goals simp [sourceOk]

/-- The format descriptor is stored as R51 gives, or fails one of its checks, each with BADARG. -/
theorem formatAt_eq (p : List Byte) (i : Nat) :
    formatAt p i = if firstRefusal (formatChecks p i) = none then some (storedSettings p i).format else none := by
  simp only [formatAt, FormatMode.ofNumber_eq, formatChecks, firstRefusal_cons, firstRefusal_nil]
  by_cases hmode : 2 < u8 p i
  · simp [hmode]
  · have hopts : decide (u8 p (i + 3) < 16) = !decide (15 < u8 p (i + 3)) := by
      rw [← decide_not, decide_eq_decide]
      omega
    simp only [hmode, sourceOk_eq (Nat.not_lt.1 hmode), hopts, if_false]
    generalize sourceOk _ _ = source
    generalize decide (u8 p (i + 3) < 16) = options
    cases source <;> cases options <;> simp [storedSettings]

theorem formatChecks_refuse (p : List Byte) (i : Nat) :
    firstRefusal (formatChecks p i) = none ∨ firstRefusal (formatChecks p i) = some .badArg := by
  simp only [formatChecks, firstRefusal_cons, firstRefusal_nil]
  split
  · exact .inr rfl
  · split
    · exact .inr rfl
    · split
      · exact .inr rfl
      · exact .inl rfl

/-- The settings are stored as they are, or the first failing check refuses them (R50 rows 5 to 8, R60). -/
theorem settingsAt_eq (p : List Byte) (i : Nat) :
    settingsAt p i = match firstRefusal (settingsChecks p i) with
      | some r => .error r
      | none => .ok (storedSettings p i) := by
  simp only [settingsAt, formatAt_eq, settingsChecks, firstRefusal_append, BandMode.ofNumber_eq]
  rcases formatChecks_refuse p i with hformat | hformat
  · rw [hformat]
    by_cases hband : 2 < u8 p (i + 4)
    · simp [hband]
    · by_cases hfilter : s32 p (i + 13) < 0
      · simp [hband, hfilter]
      · by_cases hlimits : s32 p (i + 9) < s32 p (i + 5)
        · simp [hband, hfilter, hlimits]
        · simp [hband, hfilter, hlimits, storedSettings]
  · simp [hformat]


/-! ## BIND's checks (Table 3-3) -/

/-- What the checks of BIND have established about an accepted binding, and what it takes from the message. -/
structure Binding.Accepted (b : Binding) (p : List Byte) (s : State) : Prop where
  instrument : b.instrument = u24 p 0
  code : instrumentOk b.instrument = true
  kind : Kind.ofNumber (u8 p 3) = some b.kind
  panelNo : b.panelNo = u8 p 4
  panelOk : b.panelNo ≤ 31
  rowOffset : b.rowOffset = u8 p 5
  colOffset : b.colOffset = u8 p 6
  width : b.width = u8 p 7
  widthOk : 1 ≤ b.width ∧ b.width ≤ 16
  settings : b.settings = storedSettings p 8
  settingsOk : firstRefusal (settingsChecks p 8) = none
  panel : s.panel b.panelNo = some b.panel
  inside : b.rowOffset < b.panel.height ∧ b.colOffset + b.width ≤ b.panel.width
  room : (s.mirrors b.instrument b.kind).length < 4
  slot : s.lowestFree = some b.slot
  apart : b.span.any s.claimedLive = false

/-- Some slot is FREE unless the check for it fails (R54). -/
theorem State.lowestFree_eq_none_iff (s : State) :
    s.lowestFree = none ↔ allSlots.all (fun k => (s.slot k).state != .free) = true := by
  simp [State.lowestFree, List.find?_eq_none]

/-- The placement, capacity and collision checks of BIND (Table 3-3, rows 9 to 13). -/
def placeChecks (s : State) (p : List Byte) (kind : Kind) : List (Bool × Result) :=
  [((s.panel (u8 p 4)).isNone, .noPanel),
   ((s.panel (u8 p 4)).any (fun e => e.height ≤ u8 p 5 ∨ e.width < u8 p 6 + u8 p 7), .outside),
   (decide (4 ≤ (s.mirrors (u24 p 0) kind).length), .mirrors),
   (allSlots.all (fun k => (s.slot k).state != .free), .noSlot),
   ((s.panel (u8 p 4)).any (fun e =>
     (spanCells e.page (e.row + u8 p 5) (e.col + u8 p 6) (u8 p 7)).any s.claimedLive), .collide)]

theorem bindPlace_cases (p : List Byte) (s : State) (kind : Kind) (settings : Settings) :
    (∃ r, firstRefusal (placeChecks s p kind) = some r
      ∧ bindPlace s (u24 p 0) kind (u8 p 4) (u8 p 5) (u8 p 6) (u8 p 7) settings = .error r)
    ∨ firstRefusal (placeChecks s p kind) = none ∧ ∃ e slot,
      s.panel (u8 p 4) = some e ∧ u8 p 5 < e.height ∧ u8 p 6 + u8 p 7 ≤ e.width
      ∧ (s.mirrors (u24 p 0) kind).length < 4 ∧ s.lowestFree = some slot
      ∧ (spanCells e.page (e.row + u8 p 5) (e.col + u8 p 6) (u8 p 7)).any s.claimedLive = false
      ∧ bindPlace s (u24 p 0) kind (u8 p 4) (u8 p 5) (u8 p 6) (u8 p 7) settings
        = .ok { slot := slot, instrument := u24 p 0, kind := kind, panelNo := u8 p 4, panel := e, rowOffset := u8 p 5
                colOffset := u8 p 6, width := u8 p 7, settings := settings } := by
  simp only [bindPlace, placeChecks, firstRefusal_cons, firstRefusal_nil, ← State.lowestFree_eq_none_iff]
  cases hpanel : s.panel (u8 p 4) with
  | none => exact .inl ⟨.noPanel, rfl, rfl⟩
  | some e =>
    dsimp only
    by_cases houtside : e.height ≤ u8 p 5 ∨ e.width < u8 p 6 + u8 p 7
    · exact .inl ⟨.outside, by simp [houtside], if_pos houtside⟩
    by_cases hroom : 4 ≤ (s.mirrors (u24 p 0) kind).length
    · exact .inl ⟨.mirrors, by simp [houtside, hroom], by rw [if_neg houtside, if_pos hroom]⟩
    cases hslot : s.lowestFree with
    | none => exact .inl ⟨.noSlot, by simp [houtside, hroom], by rw [if_neg houtside, if_neg hroom]⟩
    | some slot =>
      rw [if_neg houtside, if_neg hroom]
      dsimp only [Binding.span]
      by_cases hcollide : (spanCells e.page (e.row + u8 p 5) (e.col + u8 p 6) (u8 p 7)).any s.claimedLive = true
      · exact .inl ⟨.collide, by simp [houtside, hroom, hcollide], if_pos hcollide⟩
      · exact .inr ⟨by simp [houtside, hroom, hcollide], e, slot, rfl, by omega, by omega, by omega, rfl,
          Bool.eq_false_iff.2 hcollide, if_neg hcollide⟩

/-- BIND is refused by the first of its checks that fails, and accepted when none does (R50). -/
theorem bindCheck_cases (p : List Byte) (s : State) :
    (∃ r, firstRefusal (bindChecks s p) = some r ∧ bindCheck p s = .error r)
    ∨ firstRefusal (bindChecks s p) = none ∧ ∃ b : Binding, bindCheck p s = .ok b ∧ b.Accepted p s := by
  simp only [bindCheck, settingsAt_eq]
  by_cases hcode : u24 p 0 = 0 ∨ 1048575 < u24 p 0
  · have hbad : instrumentOk (u24 p 0) = false := by
      rw [← Bool.not_eq_true, instrumentOk_iff]
      omega
    exact .inl ⟨.badArg, by simp [bindChecks, hcode], by simp [hbad]⟩
  have hok : instrumentOk (u24 p 0) = true := by rw [instrumentOk_iff]; omega
  rw [hok]
  cases hkind : Kind.ofNumber (u8 p 3) with
  | none => exact .inl ⟨.badArg, by simp [bindChecks, hcode, (Kind.ofNumber_eq_none_iff _).1 hkind], rfl⟩
  | some kind =>
    have hknown : ¬ 6 < u8 p 3 := by rw [← Kind.ofNumber_eq_none_iff, hkind]; simp
    by_cases hpanelNo : 31 < u8 p 4
    · exact .inl ⟨.badArg, by simp [bindChecks, hcode, hknown, hpanelNo], by simp [hpanelNo]⟩
    by_cases hwidth : u8 p 7 = 0 ∨ 16 < u8 p 7
    · exact .inl ⟨.badArg, by simp [bindChecks, hcode, hknown, hpanelNo, hwidth], by simp [hpanelNo, hwidth]⟩
    cases hsettings : firstRefusal (settingsChecks p 8) with
    | some r =>
      exact .inl ⟨r, by simp [bindChecks, firstRefusal_append, hcode, hknown, hpanelNo, hwidth, hsettings],
        by simp [hpanelNo, hwidth]⟩
    | none =>
      have hplaces : firstRefusal (bindChecks s p) = firstRefusal (placeChecks s p kind) := by
        simp [bindChecks, firstRefusal_append, hcode, hknown, hpanelNo, hwidth, hsettings, hkind, placeChecks]
      have hwidth' : ¬ (u8 p 7 < 1 ∨ 16 < u8 p 7) := by omega
      simp only [hplaces, Bool.not_true, Bool.false_eq_true, if_false, if_neg hpanelNo, if_neg hwidth']
      rcases bindPlace_cases p s kind (storedSettings p 8) with hrefused |
        ⟨hplace, e, slot, hpanel, hrow, hcol, hroom, hslot, hapart, haccept⟩
      · exact .inl hrefused
      · exact .inr ⟨hplace, _, haccept, rfl, hok, hkind, rfl, Nat.not_lt.1 hpanelNo, rfl, rfl, rfl, by dsimp only; omega, rfl, hsettings,
          hpanel, ⟨hrow, hcol⟩, hroom, hslot, hapart⟩

/-! ## Band evaluation (R86) -/

theorem bandStateOf_eq (r : Record) :
    bandStateOf r.settings.bandMode r.settings.lo r.settings.hi r.current = r.bandState := by
  unfold Record.bandState bandStateOf
  cases r.current with
  | none => cases r.settings.bandMode <;> rfl
  | some v =>
    cases r.settings.bandMode with
    | off => rfl
    | inside | outside =>
      simp only [reduceCtorEq, if_false]
      split
      · rfl
      · simp only [← Int.not_lt, ite_not]

theorem alertCondition_eq (r : Record) : alertCondition r.settings.bandMode r.bandState = r.inAlert := by
  unfold Record.inAlert
  generalize r.bandState = band
  generalize r.settings.bandMode = mode
  cases mode <;> cases band <;> rfl

/-- Band evaluation writes the band state and the alert flag alone. -/
theorem Record.banded_eq (r : Record) : r.banded = { r with band := r.bandState, alert := r.inAlert } := by
  simp only [Record.banded, bandStateOf_eq, alertCondition_eq]

/-! ## The new record (R54 to R58) -/

/-- The LAST lead's current value of an instrument, with its stale flag (R57). -/
def State.lastOf (s : State) (instrument : Nat) : Option (Int × Bool) :=
  (s.lead instrument .last).bind (fun l => (s.slot l).current.map (fun v => (v, (s.slot l).stale)))

/-- The first values of a record of a key with no lead, by kind (R57). -/
def Record.seededWith (r : Record) (last : Int × Bool) : Record :=
  match r.kind with
  | .net => { r with lastOperand := some last.1, stale := last.2 }
  | .high | .low => { r with current := some last.1, direction := .first, stale := last.2 }
  | _ => r

theorem seeded_eq (s : State) (r : Record) : seeded s r = (s.lastOf r.instrument).elim r r.seededWith := by
  unfold seeded State.lastOf
  cases s.lead r.instrument .last with
  | none => rfl
  | some l =>
    cases hc : (s.slot l).current with
    | none => simp [hc]
    | some v => cases hk : r.kind <;> simp [hc, Record.seededWith, hk]

/-- The new record differs from its placement in an empty record by its values and its band alone. -/
theorem Binding.valued_eq (b : Binding) (s : State) :
    b.valued s = { b.record with
      current := (b.valued s).current, previous := (b.valued s).previous, direction := (b.valued s).direction
      stale := (b.valued s).stale, suspect := (b.valued s).suspect, reference := (b.valued s).reference
      lastOperand := (b.valued s).lastOperand, band := (b.valued s).band, alert := (b.valued s).alert } := by
  simp only [Binding.valued, seeded_eq]
  cases s.lead b.instrument b.kind with
  | some l => rfl
  | none =>
    cases s.lastOf b.record.instrument with
    | none => rfl
    | some last => cases hk : b.record.kind <;> simp [Record.banded, Record.seededWith, hk]

theorem Binding.valued_of_lead {b : Binding} {s : State} {l : Nat} (h : s.lead b.instrument b.kind = some l) :
    b.valued s = (copied (s.slot l) b.record).banded := by
  simp only [Binding.valued, h]

theorem Binding.valued_of_no_lead {b : Binding} {s : State} (h : s.lead b.instrument b.kind = none) :
    b.valued s = ((s.lastOf b.instrument).elim b.record b.record.seededWith).banded := by
  simp only [Binding.valued, h, seeded_eq]
  rfl

/-- The first values of a record of a key with no lead, field by field (R57). -/
theorem Binding.seeded_values {b : Binding} {s : State} (h : s.lead b.instrument b.kind = none) :
    let x := b.valued s
    let last := s.lastOf b.instrument
    x.current = (if b.kind = .high ∨ b.kind = .low then last.map Prod.fst else none) ∧ x.previous = none
      ∧ x.direction = (if (b.kind = .high ∨ b.kind = .low) ∧ last.isSome then .first else .unset)
      ∧ x.stale = (if b.kind.tickable then false else (last.map Prod.snd).getD false) ∧ x.suspect = false
      ∧ x.reference = none ∧ x.lastOperand = (if b.kind = .net then last.map Prod.fst else none) := by
  have hkind : b.record.kind = b.kind := rfl
  simp only [Binding.valued_of_no_lead h, Record.banded_eq]
  cases s.lastOf b.instrument with
  | none => simp [Binding.record, Record.empty]
  | some last =>
    simp only [Option.elim_some, Record.seededWith, hkind]
    cases b.kind <;> simp [Binding.record, Record.empty, Kind.tickable, Kind.number]

/-! ## What BIND does (R54 to R59) -/

/-- The binding carried out but for its claims and its place in the field queue. -/
def Binding.linked (b : Binding) (s : State) : State :=
  let bucket := bucketOf b.instrument b.kind
  let t := (s.setSlot b.slot (b.valued s)).setChain bucket (s.chain bucket ++ [b.slot])
  { t with ftb := { t.ftb with liveCount := t.ftb.liveCount + 1, freeCount := t.ftb.freeCount - 1 } }

/-- Claims are written beside the slots, the chains and the panels. -/
theorem State.claimAll_leaves (s : State) (k : Nat) (cells : List Nat) :
    (s.claimAll k cells).ftb.slots = s.ftb.slots ∧ (s.claimAll k cells).ftb.chains = s.ftb.chains
      ∧ (s.claimAll k cells).panels = s.panels := by
  rw [(State.claimAll_spec s k cells).2]
  exact ⟨rfl, rfl, rfl⟩

theorem State.becomeDue_chains (s : State) (k : Nat) : (s.becomeDue k).ftb.chains = s.ftb.chains := by
  rw [(State.becomeDue_spec s k).2]

/-- A record claimed and made due: beside FTB's tables, the field queue alone may change. -/
theorem State.becomeDue_claimAll_frame (s : State) (k : Nat) (cells : List Nat) :
    let t := s.claimAll k cells
    t.becomeDue k = { s with
      ftb := { (t.becomeDue k).ftb with
        liveCount := s.ftb.liveCount, freeCount := s.ftb.freeCount, retiringCount := s.ftb.retiringCount }
      ptr := { s.ptr with
        queue := if (t.slot k).queued || (t.isLive k && t.isFrozen (t.slot k).panel) then s.ptr.queue else s.ptr.queue ++ [k] } } := by
  intro t
  have frame : t = { s with ftb := { s.ftb with claims := t.ftb.claims } } := (State.claimAll_spec s k cells).2
  clear_value t
  have due := (State.becomeDue_spec t k).2
  have hptr : t.ptr = s.ptr := by rw [frame]
  dsimp only at due
  rw [hptr] at due
  generalize t.becomeDue k = u at due ⊢
  generalize ((t.slot k).queued || (t.isLive k && t.isFrozen (t.slot k).panel)) = joined at due ⊢
  rw [due, frame]

theorem bindApply_eq (b : Binding) (s : State) :
    bindApply b s = ((b.linked s).claimAll b.slot b.span).becomeDue b.slot := rfl

section
variable (b : Binding) (s : State)

theorem Binding.claimed_slot (j : Nat) :
    ((b.linked s).claimAll b.slot b.span).slot j = if j = b.slot then b.valued s else s.slot j := by
  have linked : (b.linked s).slot j = (s.setSlot b.slot (b.valued s)).slot j := State.slot_of_slots rfl j
  rw [State.slot_of_slots (State.claimAll_leaves _ _ _).1, linked, State.slot_setSlot]

/-- The new record is LIVE, in its panel and not queued. -/
theorem Binding.claimed_held :
    (((b.linked s).claimAll b.slot b.span).isLive b.slot
      && ((b.linked s).claimAll b.slot b.span).isFrozen (((b.linked s).claimAll b.slot b.span).slot b.slot).panel)
      = s.isFrozen b.panelNo := by
  have frozen : ((b.linked s).claimAll b.slot b.span).isFrozen b.panelNo = s.isFrozen b.panelNo := by
    rw [State.isFrozen, State.panel, (State.claimAll_leaves _ _ _).2.2]
    rfl
  rw [State.isLive, Binding.claimed_slot, if_pos rfl, Binding.valued_eq]
  exact (Bool.true_and _).trans frozen

theorem bindApply_slot (j : Nat) : (bindApply b s).slot j =
    if j = b.slot then { b.valued s with queued := !s.isFrozen b.panelNo, due := s.isFrozen b.panelNo } else s.slot j := by
  rw [bindApply_eq, (State.becomeDue_spec _ b.slot).1, Binding.claimed_held]
  split
  · rw [Binding.claimed_slot, if_pos rfl, Binding.valued_eq]
    rfl
  · next hj => rw [Binding.claimed_slot, if_neg hj]

theorem bindApply_chain (bucket : Nat) : (bindApply b s).chain bucket =
    if bucket = bucketOf b.instrument b.kind then s.chain bucket ++ [b.slot] else s.chain bucket := by
  have linked : (bindApply b s).chain bucket = (b.linked s).chain bucket :=
    State.chain_of_chains ((State.becomeDue_chains _ _).trans (State.claimAll_leaves _ _ _).2.1) bucket
  have appended : (b.linked s).chain bucket = ((s.setSlot b.slot (b.valued s)).setChain (bucketOf b.instrument b.kind)
      (s.chain (bucketOf b.instrument b.kind) ++ [b.slot])).chain bucket := State.chain_of_chains rfl bucket
  rw [linked, appended, State.chain_setChain]
  split
  · next hb => rw [hb]
  · rfl

theorem bindApply_claim (c : Nat) : (bindApply b s).claim c = if c ∈ b.span then some b.slot else s.claim c := by
  rw [bindApply_eq, (State.becomeDue_spec _ b.slot).2]
  exact (State.claimAll_spec (b.linked s) b.slot b.span).1 c

/-- What else BIND touches: two counts and, in an OPEN panel, the field queue. -/
theorem bindApply_frame : bindApply b s = { s with
    ftb := { (bindApply b s).ftb with
      liveCount := s.ftb.liveCount + 1, freeCount := s.ftb.freeCount - 1, retiringCount := s.ftb.retiringCount }
    ptr := { s.ptr with queue := if s.isFrozen b.panelNo then s.ptr.queue else s.ptr.queue ++ [b.slot] } } := by
  rw [bindApply_eq, State.becomeDue_claimAll_frame, Binding.claimed_held, Binding.claimed_slot, if_pos rfl, Binding.valued_eq]
  rfl

end

/-- Settles O19: the checks in order, then what the accepted binding leaves. -/
theorem bindCreatesRecord : Obligations.BindCreatesRecord := by
  intro s m reply ready hlength
  have hlen : Command.bind.lengthOk m.params = true := by simp [Command.lengthOk, hlength]
  have hbody : Command.bind.body m (s.taken reply) = bindBody m (s.taken reply) := rfl
  rcases bindCheck_cases m.params (s.taken reply) with ⟨r, hrefusal, hcheck⟩ | ⟨hnone, b, hcheck, haccepted⟩
  · have hrefusal : firstRefusal (bindChecks s m.params) = some r := hrefusal
    refine ⟨fun r' hr' => ?_, fun hnone => ?_⟩
    · obtain rfl : r = r' := Option.some.inj (hrefusal.symm.trans hr')
      exact exec_refused ready hlen (by rw [hbody, bindBody, hcheck])
    · rw [hrefusal] at hnone
      cases hnone
  · have hnone : firstRefusal (bindChecks s m.params) = none := hnone
    refine ⟨fun r hr => ?_, fun _ => ?_⟩
    · rw [hnone] at hr
      cases hr
    · have hx := bindApply_slot b (s.taken reply) b.slot
      have hfrozen : (s.taken reply).isFrozen b.panelNo = b.panel.frozen := by simp [State.isFrozen, haccepted.panel]
      rw [if_pos rfl, hfrozen] at hx
      have hfree := State.lowestFree_some haccepted.slot
      have hframe := bindApply_frame b (s.taken reply)
      rw [hfrozen] at hframe
      simp only [← haccepted.instrument, ← haccepted.panelNo, ← haccepted.rowOffset, ← haccepted.colOffset, ← haccepted.width,
        ← haccepted.settings]
      refine ⟨b.slot, b.kind, b.panel, bindApply b (s.taken reply), hfree.1, hfree.2.1, hfree.2.2, ?kind, haccepted.panel, ?exec,
        ?placed, ?copied, ?seeded, ?rest, ?others, ?chains, ?claims, ?frame, ?lki⟩
      case kind => exact ((Kind.ofNumber_eq_some_iff _ _).1 haccepted.kind).symm
      case exec => exact exec_done ready hlen (by rw [hbody, bindBody, hcheck]) (bindApply_recordsOnly _ b).lki
      case placed =>
        rw [hx, Binding.valued_eq]
        exact ⟨rfl, rfl, rfl, rfl, rfl, rfl, rfl, rfl, rfl, rfl, rfl⟩
      case copied =>
        intro l hl
        rw [hx, Binding.valued_of_lead (s := s.taken reply) hl]
        exact ⟨rfl, rfl, rfl, rfl, rfl, rfl, rfl⟩
      case seeded =>
        intro hl
        rw [hx]
        exact Binding.seeded_values (s := s.taken reply) hl
      case rest =>
        obtain ⟨hband, halert⟩ : (b.valued (s.taken reply)).band = (b.valued (s.taken reply)).bandState
            ∧ (b.valued (s.taken reply)).alert = (b.valued (s.taken reply)).inAlert := by
          simp only [Binding.valued, Record.banded_eq]
          exact ⟨rfl, rfl⟩
        rw [hx]
        refine ⟨hband, halert, ?_⟩
        rw [Binding.valued_eq]
        exact ⟨rfl, rfl, rfl, rfl, rfl, rfl, rfl, rfl, rfl⟩
      case others => exact fun j hj => (bindApply_slot b (s.taken reply) j).trans (if_neg hj)
      case chains => exact bindApply_chain b (s.taken reply)
      case claims => exact bindApply_claim b (s.taken reply)
      case frame =>
        rw [(bindApply_recordsOnly (s.taken reply) b).lki]
        exact hframe
      case lki => exact (bindApply_recordsOnly _ b).lki

end Sys2Proof.Machine
end

section
/-!
PROOFS, the records and the Key Index together (O55, O57, O59). What the promises about records, chains, mirrors, guard state, the
alert list and the counts read of a state, and how an update of some records keeps them.
-/

namespace Sys2Proof.Machine

/-! ## What the promises read of a record -/

/-- What the Key Index and the counts read of a record. -/
def Record.key (r : Record) : SlotState × Nat × Kind := (r.state, r.instrument, r.kind)

/-- The fields that the mirrors of a key share (R39). -/
def Record.shared (r : Record) : Option Int × Option Int × Direction × Bool × Bool × Option Int × Option Int :=
  (r.current, r.previous, r.direction, r.stale, r.suspect, r.reference, r.lastOperand)

/-- The guard state of a record (R40). -/
def Record.guard (r : Record) : Option Int × Nat := (r.suspectValue, r.holdCount)

theorem Record.key_eq_iff {r x : Record} :
    r.key = x.key ↔ r.state = x.state ∧ r.instrument = x.instrument ∧ r.kind = x.kind := by simp [Record.key]

theorem Record.shared_eq_iff {r x : Record} : r.shared = x.shared ↔
    r.current = x.current ∧ r.previous = x.previous ∧ r.direction = x.direction ∧ r.stale = x.stale
      ∧ r.suspect = x.suspect ∧ r.reference = x.reference ∧ r.lastOperand = x.lastOperand := by simp [Record.shared]

theorem Record.guard_eq_iff {r x : Record} :
    r.guard = x.guard ↔ r.suspectValue = x.suspectValue ∧ r.holdCount = x.holdCount := by simp [Record.guard]

/-- R39 in terms of keys and shared fields. -/
theorem State.mirrorsAgree_iff (s : State) : s.MirrorsAgree ↔ ∀ j k, s.isLive j = true → s.isLive k = true →
    (s.slot j).key = (s.slot k).key → (s.slot j).shared = (s.slot k).shared := by
  simp only [State.MirrorsAgree, Record.key_eq_iff, Record.shared_eq_iff, State.isLive_iff]
  constructor
  · intro h j k hj hk ⟨_, hi, hkind⟩
    exact h j k hj hk hi hkind
  · intro h j k hj hk hi hkind
    exact h j k hj hk ⟨hj.trans hk.symm, hi, hkind⟩

/-! ## The same index -/

/-- `t` has every slot in the state and with the key it has in `s`, and the chains and counts of `s`. -/
structure State.SameIndex (s t : State) : Prop where
  key : ∀ k, (t.slot k).key = (s.slot k).key
  chains : t.ftb.chains = s.ftb.chains
  liveCount : t.ftb.liveCount = s.ftb.liveCount
  retiringCount : t.ftb.retiringCount = s.ftb.retiringCount
  freeCount : t.ftb.freeCount = s.ftb.freeCount

namespace State.SameIndex

theorem refl (s : State) : s.SameIndex s := ⟨fun _ => rfl, rfl, rfl, rfl, rfl⟩

variable {s t u : State}

theorem trans (hst : s.SameIndex t) (htu : t.SameIndex u) : s.SameIndex u where
  key k := (htu.key k).trans (hst.key k)
  chains := htu.chains.trans hst.chains
  liveCount := htu.liveCount.trans hst.liveCount
  retiringCount := htu.retiringCount.trans hst.retiringCount
  freeCount := htu.freeCount.trans hst.freeCount

variable (h : s.SameIndex t)
include h

theorem state (k : Nat) : (t.slot k).state = (s.slot k).state := (Record.key_eq_iff.1 (h.key k)).1

theorem instrument (k : Nat) : (t.slot k).instrument = (s.slot k).instrument := (Record.key_eq_iff.1 (h.key k)).2.1

theorem kind (k : Nat) : (t.slot k).kind = (s.slot k).kind := (Record.key_eq_iff.1 (h.key k)).2.2

theorem isLive (k : Nat) : t.isLive k = s.isLive k := by rw [State.isLive, h.state, State.isLive]

theorem chain (b : Nat) : t.chain b = s.chain b := State.chain_of_chains h.chains b

theorem mirrors (instrument : Nat) (kind : Kind) : t.mirrors instrument kind = s.mirrors instrument kind := by
  simp only [State.mirrors, h.chain, h.isLive, h.instrument, h.kind]

theorem lead (instrument : Nat) (kind : Kind) : t.lead instrument kind = s.lead instrument kind := by
  rw [State.lead_eq_head?, h.mirrors, State.lead_eq_head?]

theorem chainsSound (sound : s.ChainsSound) : t.ChainsSound where
  nodup b := h.chain b ▸ sound.nodup b
  members b k := by rw [h.chain, h.isLive, h.instrument, h.kind, sound.members]
  four instrument kind := h.mirrors instrument kind ▸ sound.four instrument kind

theorem countOf (state : SlotState) : t.countOf state = s.countOf state := by
  simp only [State.countOf, h.state]

theorem counted (sound : s.Counted) : t.Counted where
  live := by rw [h.liveCount, h.countOf, sound.live]
  retiring := by rw [h.retiringCount, h.countOf, sound.retiring]
  free := by rw [h.freeCount, h.countOf, sound.free]

/-- Mirrors go on agreeing when no shared field moves. -/
theorem mirrorsAgree (shared : ∀ k, (t.slot k).shared = (s.slot k).shared) (agree : s.MirrorsAgree) : t.MirrorsAgree := by
  simp only [State.mirrorsAgree_iff, h.isLive, h.key, shared] at agree ⊢
  exact agree

/-- Guard state stays sound when none of it moves. -/
theorem guardSound (guard : ∀ k, (t.slot k).guard = (s.slot k).guard) (suspect : ∀ k, (t.slot k).suspect = (s.slot k).suspect)
    (sound : s.GuardSound) : t.GuardSound where
  lead instrument kind k hlead := by
    obtain ⟨hvalue, hcount⟩ := Record.guard_eq_iff.1 (guard k)
    rw [hvalue, hcount]
    exact sound.lead instrument kind k (h.lead instrument kind ▸ hlead)
  suspects instrument kind l k hlead hk := by
    rw [suspect, (Record.guard_eq_iff.1 (guard l)).1]
    exact sound.suspects instrument kind l k (h.lead instrument kind ▸ hlead) (h.mirrors instrument kind ▸ hk)
  others k hk := by
    obtain ⟨hvalue, hcount⟩ := Record.guard_eq_iff.1 (guard k)
    rw [hvalue, hcount]
    exact sound.others k (by rwa [h.lead, h.instrument, h.kind] at hk)
  derived k hk := by
    rw [suspect, (Record.guard_eq_iff.1 (guard k)).1]
    exact sound.derived k (h.kind k ▸ hk)

/-- The alert list stays sound when no entry joins it. -/
theorem alertsSound (alerts : t.alerts.Sublist s.alerts) (sound : s.AlertsSound) : t.AlertsSound where
  nodup := sound.nodup.sublist (alerts.map _)
  live e he := (h.isLive e.slot).trans (sound.live e (alerts.subset he))

end State.SameIndex

/-! ## Sound fields -/

/-- The promises about the records and their index: those of O55 and O57. -/
structure State.FieldsSound (s : State) : Prop where
  chains : s.ChainsSound
  mirrors : s.MirrorsAgree
  guarded : s.GuardSound
  records : ∀ k, (s.slot k).Sound
  alerts : s.AlertsSound
  counted : s.Counted

theorem State.Sound.fields {s : State} (h : s.Sound) : s.FieldsSound :=
  ⟨h.chains, h.mirrors, h.guarded, h.records, h.alerts, h.counted⟩

/-- `t` is sound in its fields, with the index of `s`: what every step does that moves no slot from state to state. -/
structure State.KeepsFields (s t : State) : Prop where
  sound : t.FieldsSound
  same : s.SameIndex t

namespace State.FieldsSound

variable {s t : State}

theorem keeps_self (h : s.FieldsSound) : s.KeepsFields s := ⟨h, .refl s⟩

/-- What touches of FTB the claims alone, and of the alert list only takes away, keeps the fields. -/
theorem of_same (h : s.FieldsSound) (ftb : t.ftb = { s.ftb with claims := t.ftb.claims })
    (alerts : t.alerts.Sublist s.alerts) : s.KeepsFields t := by
  have slot (k : Nat) : t.slot k = s.slot k := State.slot_of_slots (by rw [ftb]) k
  have same : s.SameIndex t := ⟨fun k => by rw [slot], by rw [ftb], by rw [ftb], by rw [ftb], by rw [ftb]⟩
  exact ⟨⟨same.chainsSound h.chains, same.mirrorsAgree (fun k => by rw [slot]) h.mirrors,
    same.guardSound (fun k => by rw [slot]) (fun k => by rw [slot]) h.guarded, fun k => slot k ▸ h.records k,
    same.alertsSound alerts h.alerts, same.counted h.counted⟩, same⟩

theorem of_linkOnly (h : s.FieldsSound) (link : s.LinkOnly t) : s.KeepsFields t := by
  rw [show t = _ from link]
  exact h.of_same rfl (.refl _)

end State.FieldsSound

theorem State.KeepsFields.trans {s t u : State} (hst : s.KeepsFields t) (htu : t.KeepsFields u) : s.KeepsFields u :=
  ⟨htu.sound, hst.same.trans htu.same⟩

/-- A fold over slots that keep their state keeps the fields when each of its steps does. -/
theorem State.FieldsSound.foldl {s : State} (h : s.FieldsSound) {f : State → Nat → State} (l : List Nat)
    (step : ∀ t k, s.KeepsFields t → k ∈ l → t.KeepsFields (f t k)) : s.KeepsFields (l.foldl f s) :=
  List.foldlRecOn (motive := s.KeepsFields) l f h.keeps_self fun t ht k hk => ht.trans (step t k ht hk)

/-! ## Updates of some records -/

/-- `t` is `s` with the records of `l` changed by `g` and, of the rest, at most the alert list changed, in which at most slots of `l`
join. -/
structure State.Changes (s : State) (l : List Nat) (g : Nat → Record → Record) (t : State) : Prop where
  slot : ∀ j, t.slot j = if j ∈ l then g j (s.slot j) else s.slot j
  chains : t.ftb.chains = s.ftb.chains
  liveCount : t.ftb.liveCount = s.ftb.liveCount
  retiringCount : t.ftb.retiringCount = s.ftb.retiringCount
  freeCount : t.ftb.freeCount = s.ftb.freeCount
  agu : t.agu = s.agu
  listed : ∀ e ∈ t.alerts, e.slot ∈ l ∨ ∃ x ∈ s.alerts, x.slot = e.slot
  nodup : (s.alerts.map AlertEntry.slot).Nodup → (t.alerts.map AlertEntry.slot).Nodup

namespace State.Changes

variable {s t u : State} {l : List Nat} {f g : Nat → Record → Record}

theorem slot_mem (c : s.Changes l g t) {j : Nat} (hj : j ∈ l) : t.slot j = g j (s.slot j) := by
  rw [c.slot, if_pos hj]

theorem slot_of_not_mem (c : s.Changes l g t) {j : Nat} (hj : j ∉ l) : t.slot j = s.slot j := by
  rw [c.slot, if_neg hj]

theorem nil (s : State) (g : Nat → Record → Record) : s.Changes [] g s :=
  ⟨fun _ => rfl, rfl, rfl, rfl, rfl, rfl, fun e he => .inr ⟨e, he, rfl⟩, id⟩

/-- Two updates after each other. -/
theorem trans {m : List Nat} (hf : s.Changes l f t) (hg : t.Changes m g u) :
    s.Changes (l ++ m) (fun j r => if j ∈ m then g j (if j ∈ l then f j r else r) else f j r) u where
  slot j := by
    rw [hg.slot, hf.slot]
    by_cases hl : j ∈ l <;> by_cases hm : j ∈ m <;> simp [hl, hm]
  chains := hg.chains.trans hf.chains
  liveCount := hg.liveCount.trans hf.liveCount
  retiringCount := hg.retiringCount.trans hf.retiringCount
  freeCount := hg.freeCount.trans hf.freeCount
  agu := hg.agu.trans hf.agu
  listed e he := by
    rcases hg.listed e he with hm | ⟨x, hx, hslot⟩
    · exact .inl (List.mem_append_right l hm)
    · rcases hf.listed x hx with hl | ⟨y, hy, hyslot⟩
      · exact .inl (List.mem_append_left m (hslot ▸ hl))
      · exact .inr ⟨y, hy, hyslot.trans hslot⟩
  nodup := hg.nodup ∘ hf.nodup

/-- The same update told by another list and another function. -/
theorem congr {m : List Nat} (c : s.Changes l f t) (hlm : ∀ j ∈ l, j ∈ m)
    (hfg : ∀ j ∈ m, g j (s.slot j) = if j ∈ l then f j (s.slot j) else s.slot j) : s.Changes m g t where
  slot j := by
    rw [c.slot]
    by_cases hm : j ∈ m
    · rw [if_pos hm, hfg j hm]
    · rw [if_neg hm, if_neg (fun hl => hm (hlm j hl))]
  chains := c.chains
  liveCount := c.liveCount
  retiringCount := c.retiringCount
  freeCount := c.freeCount
  agu := c.agu
  listed e he := (c.listed e he).imp_left (hlm _)
  nodup := c.nodup

/-- Two updates of the same records. -/
theorem comp (hf : s.Changes l f t) (hg : t.Changes l g u) : s.Changes l (fun j r => g j (f j r)) u :=
  (hf.trans hg).congr (by simp) fun j hj => by
    have hl : j ∈ l := by simpa using hj
    simp [hl]

theorem sameIndex (c : s.Changes l g t) (key : ∀ j ∈ l, (g j (s.slot j)).key = (s.slot j).key) : s.SameIndex t where
  key j := by
    rw [c.slot]
    split
    · next hj => exact key j hj
    · rfl
  chains := c.chains
  liveCount := c.liveCount
  retiringCount := c.retiringCount
  freeCount := c.freeCount

/-- A fold over distinct slots, each step of which changes its own record by `g`. -/
theorem foldl {σ : Type} {state : σ → State} {f : σ → Nat → σ} {agu : Agu} (l : List Nat) (hl : l.Nodup)
    (step : ∀ b k, (state b).agu = agu → (state b).Changes [k] g (state (f b k))) {a : σ} (hagu : (state a).agu = agu) :
    (state a).Changes l g (state (l.foldl f a)) := by
  induction l generalizing a with
  | nil => exact .nil _ g
  | cons k rest ih =>
    obtain ⟨hk, hrest⟩ := List.nodup_cons.1 hl
    have first := step a k hagu
    refine (first.trans (ih hrest (first.agu.trans hagu))).congr (by simp) fun j hj => ?_
    rcases List.mem_cons.1 hj with rfl | hj
    · simp [hk]
    · have : j ≠ k := fun heq => hk (heq ▸ hj)
      simp [hj, this]

end State.Changes

/-- Sound fields after an update of LIVE records that keeps each of them sound. -/
theorem State.FieldsSound.changes {s t : State} {l : List Nat} {g : Nat → Record → Record} (h : s.FieldsSound)
    (c : s.Changes l g t) (live : ∀ j ∈ l, s.isLive j = true) (same : s.SameIndex t)
    (records : ∀ j ∈ l, (g j (s.slot j)).Sound) (agree : t.MirrorsAgree) (guarded : t.GuardSound) : s.KeepsFields t := by
  refine ⟨⟨same.chainsSound h.chains, agree, guarded, fun k => ?_, ⟨c.nodup h.alerts.nodup, fun e he => ?_⟩,
    same.counted h.counted⟩, same⟩
  · rw [c.slot]
    split
    · next hk => exact records k hk
    · exact h.records k
  · rw [same.isLive]
    rcases c.listed e he with hl | ⟨x, hx, hslot⟩
    · exact live _ hl
    · exact hslot ▸ h.alerts.live x hx

/-- Mirrors agree after an update of all records of one key in which equal shared fields become equal shared fields. -/
theorem State.FieldsSound.mirrorsAgree_of_changes {s t : State} {instrument : Nat} {kind : Kind} {l : List Nat}
    {g : Nat → Record → Record} (h : s.FieldsSound) (hl : s.mirrors instrument kind = l) (c : s.Changes l g t)
    (same : s.SameIndex t)
    (shared : ∀ j k (r x : Record), r.shared = x.shared → (g j r).shared = (g k x).shared) : t.MirrorsAgree := by
  subst hl
  rw [State.mirrorsAgree_iff]
  intro j k hj hk hkey
  rw [same.isLive] at hj hk
  rw [same.key, same.key] at hkey
  have agree := (s.mirrorsAgree_iff.1 h.mirrors) j k hj hk hkey
  obtain ⟨_, hinstrument, hkind⟩ := Record.key_eq_iff.1 hkey
  have hmem : j ∈ s.mirrors instrument kind ↔ k ∈ s.mirrors instrument kind := by
    simp only [h.chains.mem_mirrors, hj, hk, hinstrument, hkind]
  rw [c.slot, c.slot]
  by_cases hm : j ∈ s.mirrors instrument kind
  · rw [if_pos hm, if_pos (hmem.1 hm)]
    exact shared j k _ _ agree
  · rw [if_neg hm, if_neg (fun hk => hm (hmem.2 hk))]
    exact agree

/-- An update of all records of one key, the same for each, that leaves their keys and guard state. -/
theorem State.FieldsSound.changes_mirrors {s t : State} {instrument : Nat} {kind : Kind} {g : Record → Record}
    (h : s.FieldsSound) (c : s.Changes (s.mirrors instrument kind) (fun _ => g) t) (key : ∀ r, (g r).key = r.key)
    (guard : ∀ r, (g r).guard = r.guard) (suspect : ∀ r, (g r).suspect = r.suspect)
    (shared : ∀ r x : Record, r.shared = x.shared → (g r).shared = (g x).shared)
    (records : ∀ r : Record, r.Sound → r.state = .live → r.kind = kind → (g r).Sound) : s.KeepsFields t := by
  have same : s.SameIndex t := c.sameIndex fun j _ => key _
  have live (j : Nat) (hj : j ∈ s.mirrors instrument kind) := h.chains.mem_mirrors.1 hj
  refine h.changes c (fun j hj => (live j hj).1) same (fun j hj => ?_)
    (h.mirrorsAgree_of_changes rfl c same fun _ _ => shared) ?_
  · obtain ⟨hlive, _, hkind⟩ := live j hj
    exact records _ (h.records j) ((s.isLive_iff j).1 hlive) hkind
  · refine same.guardSound (fun k => ?_) (fun k => ?_) h.guarded
    · rw [c.slot]
      split
      · exact guard _
      · rfl
    · rw [c.slot]
      split
      · exact suspect _
      · rfl

/-- An update of one record that moves neither its key nor its shared fields nor its guard state. -/
theorem State.FieldsSound.changes_one {s t : State} {k : Nat} {g : Nat → Record → Record} (h : s.FieldsSound)
    (c : s.Changes [k] g t) (live : s.isLive k = true) (key : (g k (s.slot k)).key = (s.slot k).key)
    (shared : (g k (s.slot k)).shared = (s.slot k).shared) (guard : (g k (s.slot k)).guard = (s.slot k).guard)
    (records : (g k (s.slot k)).Sound) : s.KeepsFields t := by
  have only {j : Nat} (hj : j ∈ [k]) : j = k := List.mem_singleton.1 hj
  have same : s.SameIndex t := c.sameIndex fun j hj => by rw [only hj, key]
  have unmoved {β : Type} (view : Record → β) (hview : view (g k (s.slot k)) = view (s.slot k)) (j : Nat) :
      view (t.slot j) = view (s.slot j) := by
    rw [c.slot]
    split
    · next hj => rw [only hj, hview]
    · rfl
  exact h.changes c (fun j hj => only hj ▸ live) same (fun j hj => only hj ▸ records)
    (same.mirrorsAgree (unmoved _ shared) h.mirrors)
    (same.guardSound (unmoved _ guard) (unmoved _ (Record.shared_eq_iff.1 shared).2.2.2.2.1) h.guarded)

end Sys2Proof.Machine
end

section
/-!
PROOFS, what the operations on records do to a record, one equation each, and that each keeps a sound record sound.
-/

namespace Sys2Proof.Machine

/-! ## Updates of one slot -/

theorem State.updSlot_changes (s : State) (k : Nat) (f : Record → Record) : s.Changes [k] (fun _ => f) (s.updSlot k f) where
  slot j := by
    rw [State.slot_updSlot]
    by_cases hj : j = k <;> simp [hj]
  chains := rfl
  liveCount := rfl
  retiringCount := rfl
  freeCount := rfl
  agu := rfl
  listed e he := .inr ⟨e, he, rfl⟩
  nodup := id

/-- An update of one record, LIVE or not, that moves neither its key nor its shared fields nor its guard state. -/
theorem State.FieldsSound.updSlot {s : State} (h : s.FieldsSound) {k : Nat} {f : Record → Record}
    (key : (f (s.slot k)).key = (s.slot k).key) (shared : (f (s.slot k)).shared = (s.slot k).shared)
    (guard : (f (s.slot k)).guard = (s.slot k).guard) (record : (f (s.slot k)).Sound) : s.KeepsFields (s.updSlot k f) := by
  have unmoved {β : Type} (view : Record → β) (hview : view (f (s.slot k)) = view (s.slot k)) (j : Nat) :
      view ((s.updSlot k f).slot j) = view (s.slot j) := by
    rw [State.slot_updSlot]
    split
    · next hj => rw [hj, hview]
    · rfl
  have same : s.SameIndex (s.updSlot k f) := ⟨unmoved _ key, rfl, rfl, rfl, rfl⟩
  refine ⟨⟨same.chainsSound h.chains, same.mirrorsAgree (unmoved _ shared) h.mirrors,
    same.guardSound (unmoved _ guard) (unmoved _ (Record.shared_eq_iff.1 shared).2.2.2.2.1) h.guarded, fun j => ?_,
    same.alertsSound (.refl _) h.alerts, same.counted h.counted⟩, same⟩
  rw [State.slot_updSlot]
  split
  · exact record
  · exact h.records j

/-! ## The alert list (R90) -/

/-- A crossing is entered in the alert list, or lost with ALERT_LOST. -/
theorem State.enterAlert_eq (s : State) (e : AlertEntry) : s.enterAlert e = { s with
    alerts := entered s.alerts e
    stu := { s.stu with sticky := s.stu.sticky ||| (if lost s.alerts e then 0x40 else 0) } } := by
  unfold State.enterAlert entered lost
  by_cases hany : s.alerts.any (fun x => x.slot == e.slot) = true
  · simp [hany, replaceEntry]
  · by_cases hroom : s.alerts.length < 16
    · simp [hany, hroom, Nat.not_le.2 hroom]
    · simp [hany, hroom, Nat.le_of_not_lt hroom, State.raise, StickyFlag.mask]

/-- A replaced entry leaves the listed slots as they are. -/
theorem map_slot_replace (e : AlertEntry) (es : List AlertEntry) :
    (es.map (fun x => if x.slot = e.slot then e else x)).map AlertEntry.slot = es.map AlertEntry.slot := by
  rw [List.map_map]
  refine List.map_congr_left fun x _ => ?_
  simp only [Function.comp]
  split
  · next h => exact h.symm
  · rfl

theorem entered_slots (es : List AlertEntry) (e : AlertEntry) : (entered es e).map AlertEntry.slot =
    if e.slot ∈ es.map AlertEntry.slot ∨ 16 ≤ es.length then es.map AlertEntry.slot else es.map AlertEntry.slot ++ [e.slot] := by
  have hany : es.any (fun x => x.slot == e.slot) = true ↔ e.slot ∈ es.map AlertEntry.slot := by simp
  unfold entered
  by_cases hlisted : e.slot ∈ es.map AlertEntry.slot
  · rw [if_pos (hany.2 hlisted), if_pos (.inl hlisted), map_slot_replace]
  · rw [if_neg (mt hany.1 hlisted)]
    by_cases hroom : es.length < 16
    · rw [if_pos hroom, if_neg (by simp only [hlisted, false_or]; omega), List.map_append]
      rfl
    · rw [if_neg hroom, if_pos (.inr (Nat.le_of_not_lt hroom))]

/-- Entering a crossing lists at most its own slot anew, and no slot twice. -/
theorem State.enterAlert_changes {s : State} {e : AlertEntry} {k : Nat} (hk : e.slot = k) :
    s.Changes [k] (fun _ r => r) (s.enterAlert e) := by
  subst hk
  rw [State.enterAlert_eq]
  have slots := entered_slots s.alerts e
  refine ⟨fun j => (ite_self _).symm, rfl, rfl, rfl, rfl, rfl, fun x hx => ?_, fun hnodup => ?_⟩
  · have hslot : x.slot ∈ (entered s.alerts e).map AlertEntry.slot := List.mem_map_of_mem hx
    rw [slots] at hslot
    split at hslot
    · exact .inr (List.mem_map.1 hslot)
    · exact (List.mem_append.1 hslot).elim (fun h => .inr (List.mem_map.1 h)) .inl
  · show ((entered s.alerts e).map AlertEntry.slot).Nodup
    rw [slots]
    split
    · exact hnodup
    · next hnew =>
      exact hnodup.append (List.nodup_singleton _) (List.disjoint_singleton.2 fun h => hnew (.inl h))

/-! ## Band evaluation (R86, R87) -/

/-- Band evaluation of a slot: its record evaluated and, at a crossing, entered in the alert list. -/
theorem State.evaluateBand_eq (s : State) (k : Nat) : s.evaluateBand k =
    if (s.slot k).crosses
    then (s.setSlot k ((s.slot k).evaluated s.agu.alertFrames)).enterAlert (crossingEntry k (s.slot k))
    else s.setSlot k ((s.slot k).evaluated s.agu.alertFrames) := by
  have hcrosses : ((s.slot k).banded.alert && !(s.slot k).alert) = (s.slot k).crosses := by
    rw [Record.banded_eq, Record.crosses]
  simp only [State.evaluateBand, hcrosses]
  cases h : (s.slot k).crosses with
  | true =>
    simp only [if_true, Record.banded_eq, Record.evaluated, h]
    rfl
  | false => simp only [Bool.false_eq_true, if_false, Record.banded_eq, Record.evaluated, h]

theorem State.setSlot_changes (s : State) (k : Nat) (f : Record → Record) :
    s.Changes [k] (fun _ => f) (s.setSlot k (f (s.slot k))) := s.updSlot_changes k f

theorem State.evaluateBand_changes (s : State) (k : Nat) :
    s.Changes [k] (fun _ r => r.evaluated s.agu.alertFrames) (s.evaluateBand k) := by
  have evaluated := s.setSlot_changes k (fun r => r.evaluated s.agu.alertFrames)
  rw [State.evaluateBand_eq]
  split
  · exact evaluated.comp (State.enterAlert_changes rfl)
  · exact evaluated

/-- An update of a record and the evaluation of its band. -/
theorem State.updSlot_evaluateBand_changes (s : State) (k : Nat) (f : Record → Record) :
    s.Changes [k] (fun _ r => (f r).evaluated s.agu.alertFrames) ((s.updSlot k f).evaluateBand k) :=
  (s.updSlot_changes k f).comp (State.evaluateBand_changes _ k)

/-! ## Sound records -/

theorem inValueRange_none : inValueRange none := nofun

theorem inValueRange_some {v : Int} (h : -2147483647 ≤ v ∧ v ≤ 2147483647) : inValueRange (some v) := by
  rintro x ⟨⟩
  exact h

theorem inValueRange_ite {c : Prop} [Decidable c] {v w : Option Int} (hv : inValueRange v) (hw : inValueRange w) :
    inValueRange (if c then v else w) := by
  split
  · exact hv
  · exact hw

theorem saturate_range (v : Int) : -2147483647 ≤ saturate v ∧ saturate v ≤ 2147483647 := by
  unfold saturate
  omega

theorem netValue_range (reference last : Option Int) : inValueRange (netValue reference last) := by
  unfold netValue
  split
  · exact inValueRange_some (saturate_range _)
  · exact inValueRange_none

theorem Record.empty_sound : Record.empty.Sound where
  free _ := rfl
  placed h := absurd rfl h
  values := ⟨nofun, nofun, nofun, nofun, nofun⟩
  size := nofun
  operands _ := ⟨rfl, rfl⟩
  net := nofun
  band := rfl
  alert := rfl
  format := rfl
  display := Nat.le_refl _
  limits := by decide
  filter := by decide
  age := ⟨by decide, fun _ => rfl, fun _ => rfl⟩
  mask := ⟨nofun, fun _ => rfl⟩
  aged _ := rfl
  image := nofun

section
variable {r : Record}

/-- Band evaluation of a LIVE record that is sound but for its band. -/
theorem Record.Sound.evaluated (h : r.banded.Sound) (live : r.state = .live) {frames : Nat}
    (hframes : 1 ≤ frames ∧ frames ≤ 255) : (r.evaluated frames).Sound := by
  rw [Record.banded_eq] at h
  unfold Record.evaluated
  cases r.crosses with
  | false => exact h
  | true =>
    exact { h with
      free := fun hfree => SlotState.noConfusion (live.symm.trans hfree)
      aged := fun hnot => absurd live hnot
      age := ⟨hframes.2, nofun, fun hzero => absurd hzero (Nat.ne_of_gt hframes.1)⟩
      mask := ⟨h.mask.1, nofun⟩ }

/-- A sound LIVE record with its stale flag changed. -/
theorem Record.Sound.setStale (h : r.Sound) (live : r.state = .live) (stale : Bool) : ({ r with stale := stale } : Record).Sound :=
  { h with free := fun hfree => SlotState.noConfusion (live.symm.trans hfree) }

theorem Record.applied_eq_taking (r : Record) (v : Int) (direction : Direction) (frames : Nat) :
    r.applied v direction frames = r.taking v direction frames := by
  have hprevious : (if r.current.isSome then r.current else r.previous) = if r.current = none then r.previous else r.current := by
    cases r.current <;> rfl
  unfold Record.applied Record.taking
  by_cases hrunning : r.highlight = .alert ∧ 0 < r.age
  · simp only [if_pos hrunning, hprevious]
    rw [← hrunning.1]
  · simp only [if_neg hrunning, hprevious]

/-- A value applied to a sound LIVE record keeps it sound but for its band (R75, R76).  A NET record gets its operand with it (R79). -/
theorem Record.Sound.applied (h : r.Sound) (live : r.state = .live) {v : Int} (hv : -2147483647 ≤ v ∧ v ≤ 2147483647)
    (hsize : r.kind = .size → 0 ≤ v) {operand : Option Int} (hoperand : inValueRange operand)
    (hothers : r.kind ≠ .net → operand = none) (hnet : r.kind = .net → some v = netValue r.reference operand)
    (direction : Direction) {frames : Nat} (hframes : 1 ≤ frames ∧ frames ≤ 255) :
    (({ r with lastOperand := operand } : Record).applied v direction frames).banded.Sound := by
  obtain ⟨hcurrent, hprevious, hreference, _, hsuspect⟩ := h.values
  have highlight : (if r.highlight = .alert ∧ 0 < r.age then r.age else frames) ≤ 255
      ∧ 1 ≤ (if r.highlight = .alert ∧ 0 < r.age then r.age else frames)
      ∧ (if r.highlight = .alert ∧ 0 < r.age then HighlightKind.alert else .tick) ≠ .off := by
    split
    · next hrunning => exact ⟨h.age.1, hrunning.2, nofun⟩
    · exact ⟨hframes.2, hframes.1, nofun⟩
  obtain ⟨hage, hruns, hon⟩ := highlight
  rw [Record.applied_eq_taking]
  exact { h with
    free := fun hfree => SlotState.noConfusion (live.symm.trans hfree)
    values := ⟨inValueRange_some hv, inValueRange_ite hprevious hcurrent, hreference, hoperand, hsuspect⟩
    size := fun hkind => ⟨fun w hw => Option.some.inj hw ▸ hsize hkind, fun w hw => by
      dsimp only [Record.banded, Record.taking] at hw
      split at hw
      · exact (h.size hkind).2 w hw
      · exact (h.size hkind).1 w hw⟩
    operands := fun hkind => ⟨(h.operands hkind).1, hothers hkind⟩
    net := hnet
    band := rfl
    alert := rfl
    age := ⟨hage, fun hoff => absurd hoff hon, fun hzero => absurd hzero (Nat.ne_of_gt hruns)⟩
    mask := ⟨h.mask.1, fun hoff => absurd hoff hon⟩
    aged := fun hnot => absurd live hnot }

end

/-! ## What evaluation and application leave of a record's views -/

section
variable (r : Record) (v : Int) (direction : Direction) (frames : Nat)

@[simp] theorem Record.evaluated_key : (r.evaluated frames).key = r.key := rfl
@[simp] theorem Record.evaluated_guard : (r.evaluated frames).guard = r.guard := rfl
@[simp] theorem Record.evaluated_suspect : (r.evaluated frames).suspect = r.suspect := rfl
@[simp] theorem Record.applied_key : (r.applied v direction frames).key = r.key := by
  rw [Record.applied_eq_taking]; rfl
@[simp] theorem Record.applied_guard : (r.applied v direction frames).guard = r.guard := by
  rw [Record.applied_eq_taking]; rfl
@[simp] theorem Record.applied_suspect : (r.applied v direction frames).suspect = r.suspect := by
  rw [Record.applied_eq_taking]; rfl
theorem Record.applied_shared : (r.applied v direction frames).shared =
    (some v, if r.current = none then r.previous else r.current, direction, false, r.suspect, r.reference, r.lastOperand) := by
  rw [Record.applied_eq_taking]; rfl

end

/-! ## One value applied, evaluated and counted (R75) -/

/-- A record with a value applied and its band evaluated. -/
def Record.valued (r : Record) (v : Int) (direction : Direction) (agu : Agu) : Record :=
  (r.applied v direction agu.flashFrames).evaluated agu.alertFrames

/-- The highlight times of CONFIG are in their range (R161). -/
def Agu.InRange (agu : Agu) : Prop :=
  (1 ≤ agu.flashFrames ∧ agu.flashFrames ≤ 255) ∧ 1 ≤ agu.alertFrames ∧ agu.alertFrames ≤ 255

theorem State.applyValue_changes (s : State) (k : Nat) (v : Int) (direction : Direction) :
    s.Changes [k] (fun _ r => r.valued v direction s.agu) (s.applyValue k v direction) :=
  s.updSlot_evaluateBand_changes k _

section
variable {r : Record}

theorem Record.Sound.valued (h : r.Sound) (live : r.state = .live) {v : Int} (hv : -2147483647 ≤ v ∧ v ≤ 2147483647)
    (hsize : r.kind = .size → 0 ≤ v) (hnet : r.kind ≠ .net) (direction : Direction) {agu : Agu} (hagu : agu.InRange) :
    (r.valued v direction agu).Sound := by
  have applied := h.applied live hv hsize h.values.2.2.2.1 (fun hkind => (h.operands hkind).2)
    (fun hkind => absurd hkind hnet) direction hagu.1
  refine Record.Sound.evaluated applied ?_ hagu.2
  rw [(Record.key_eq_iff.1 (r.applied_key v direction _)).1, live]

/-- A NET record with a LAST value fanned out to it (R79, R81). -/
def Record.fannedNet (r : Record) (v : Int) (agu : Agu) : Record :=
  match r.reference with
  | some reference =>
    ({ r with lastOperand := some v } : Record).valued (saturate (v - reference)) (classOf r.current (saturate (v - reference))) agu
  | none => { r with lastOperand := some v, stale := false }

theorem Record.fannedNet_of_some {reference : Int} (h : r.reference = some reference) (v : Int) (agu : Agu) :
    r.fannedNet v agu = ({ r with lastOperand := some v } : Record).valued (saturate (v - reference))
      (classOf r.current (saturate (v - reference))) agu := by
  cases r
  cases h
  rfl

theorem Record.fannedNet_of_none (h : r.reference = none) (v : Int) (agu : Agu) :
    r.fannedNet v agu = { r with lastOperand := some v, stale := false } := by
  cases r
  cases h
  rfl

/-- A HIGH or LOW record with a LAST value fanned out to it, which `beats` the extremes it passes (R80, R81). -/
def Record.fannedExtreme (r : Record) (v : Int) (beats : Int → Bool) (direction : Direction) (agu : Agu) : Record :=
  match r.current with
  | none => r.valued v .first agu
  | some c => if beats c then r.valued v direction agu else { r with stale := false }

theorem Record.fannedExtreme_of_none (h : r.current = none) (v : Int) (beats : Int → Bool) (direction : Direction) (agu : Agu) :
    r.fannedExtreme v beats direction agu = r.valued v .first agu := by
  cases r
  cases h
  rfl

theorem Record.fannedExtreme_of_some {c : Int} (h : r.current = some c) (v : Int) (beats : Int → Bool) (direction : Direction)
    (agu : Agu) : r.fannedExtreme v beats direction agu = if beats c then r.valued v direction agu else { r with stale := false } := by
  cases r
  cases h
  rfl

theorem Record.Sound.fannedNet (h : r.Sound) (live : r.state = .live) (hkind : r.kind = .net) {v : Int}
    (hv : -2147483647 ≤ v ∧ v ≤ 2147483647) {agu : Agu} (hagu : agu.InRange) : (r.fannedNet v agu).Sound := by
  unfold Record.fannedNet
  split
  · next reference hreference =>
    have applied := h.applied live (saturate_range (v - reference)) (fun hsize => Kind.noConfusion (hkind.symm.trans hsize))
      (inValueRange_some hv) (fun hother => absurd hkind hother) (fun _ => by rw [hreference]; rfl)
      (classOf r.current (saturate (v - reference))) hagu.1
    refine Record.Sound.evaluated applied ?_ hagu.2
    rw [(Record.key_eq_iff.1 (Record.applied_key _ _ _ _)).1, live]
  · next hreference =>
    have hcurrent : r.current = none := by rw [h.net hkind, hreference]; rfl
    obtain ⟨hvalue, hprevious, hrange, _, hsuspect⟩ := h.values
    exact { h with
      free := fun hfree => SlotState.noConfusion (live.symm.trans hfree)
      values := ⟨hvalue, hprevious, hrange, inValueRange_some hv, hsuspect⟩
      operands := fun hother => absurd hkind hother
      net := fun _ => by dsimp only; rw [hcurrent, hreference]; rfl }

theorem Record.Sound.fannedExtreme (h : r.Sound) (live : r.state = .live) (hkind : r.kind = .high ∨ r.kind = .low) {v : Int}
    (hv : -2147483647 ≤ v ∧ v ≤ 2147483647) (beats : Int → Bool) (direction : Direction) {agu : Agu} (hagu : agu.InRange) :
    (r.fannedExtreme v beats direction agu).Sound := by
  have valued (d : Direction) : (r.valued v d agu).Sound := h.valued live hv
    (fun hsize => by rcases hkind with hk | hk <;> exact Kind.noConfusion (hk.symm.trans hsize))
    (fun hnet => by rcases hkind with hk | hk <;> exact Kind.noConfusion (hk.symm.trans hnet)) d hagu
  unfold Record.fannedExtreme
  split
  · exact valued _
  · split
    · exact valued _
    · exact h.setStale live false

end

/-! ### Views of a value applied or fanned out -/

section
variable (r : Record) (v : Int) (direction : Direction) (beats : Int → Bool) (agu : Agu)

theorem Record.valued_shared : (r.valued v direction agu).shared =
    (some v, if r.current = none then r.previous else r.current, direction, false, r.suspect, r.reference, r.lastOperand) :=
  r.applied_shared v direction _

theorem Record.valued_views : (r.valued v direction agu).key = r.key ∧ (r.valued v direction agu).guard = r.guard
    ∧ (r.valued v direction agu).suspect = r.suspect := by simp [Record.valued]

theorem Record.fannedNet_views : (r.fannedNet v agu).key = r.key ∧ (r.fannedNet v agu).guard = r.guard
    ∧ (r.fannedNet v agu).suspect = r.suspect := by
  unfold Record.fannedNet
  split
  · exact Record.valued_views _ _ _ _
  · exact ⟨rfl, rfl, rfl⟩

theorem Record.fannedExtreme_views : (r.fannedExtreme v beats direction agu).key = r.key
    ∧ (r.fannedExtreme v beats direction agu).guard = r.guard
    ∧ (r.fannedExtreme v beats direction agu).suspect = r.suspect := by
  unfold Record.fannedExtreme
  split
  · exact r.valued_views _ _ _
  · split
    · exact r.valued_views _ _ _
    · exact ⟨rfl, rfl, rfl⟩

variable {r} {x : Record} (h : r.shared = x.shared)
include h

theorem Record.valued_shared_congr {other : Direction} (hdirection : direction = other) :
    (r.valued v direction agu).shared = (x.valued v other agu).shared := by
  obtain ⟨hcurrent, hprevious, _, _, hsuspect, hreference, hlast⟩ := Record.shared_eq_iff.1 h
  rw [Record.valued_shared, Record.valued_shared, hcurrent, hprevious, hsuspect, hreference, hlast, hdirection]

theorem Record.fannedNet_shared_congr : (r.fannedNet v agu).shared = (x.fannedNet v agu).shared := by
  obtain ⟨hcurrent, hprevious, hdirection, hstale, hsuspect, hreference, _⟩ := Record.shared_eq_iff.1 h
  cases hx : x.reference with
  | some reference =>
    rw [Record.fannedNet_of_some (hreference.trans hx), Record.fannedNet_of_some hx]
    refine Record.valued_shared_congr _ _ _ ?_ (congrArg (classOf · _) hcurrent)
    exact Record.shared_eq_iff.2 ⟨hcurrent, hprevious, hdirection, hstale, hsuspect, hreference, rfl⟩
  | none =>
    rw [Record.fannedNet_of_none (hreference.trans hx), Record.fannedNet_of_none hx]
    exact Record.shared_eq_iff.2 ⟨hcurrent, hprevious, hdirection, rfl, hsuspect, hreference, rfl⟩

theorem Record.fannedExtreme_shared_congr :
    (r.fannedExtreme v beats direction agu).shared = (x.fannedExtreme v beats direction agu).shared := by
  obtain ⟨hcurrent, hprevious, hdirection, _, hsuspect, hreference, hlast⟩ := Record.shared_eq_iff.1 h
  cases hx : x.current with
  | none =>
    rw [Record.fannedExtreme_of_none (hcurrent.trans hx), Record.fannedExtreme_of_none hx]
    exact Record.valued_shared_congr _ _ _ h rfl
  | some c =>
    rw [Record.fannedExtreme_of_some (hcurrent.trans hx), Record.fannedExtreme_of_some hx]
    split
    · exact Record.valued_shared_congr _ _ _ h rfl
    · exact Record.shared_eq_iff.2 ⟨hcurrent, hprevious, hdirection, rfl, hsuspect, hreference, hlast⟩

end

end Sys2Proof.Machine
end

section
/-!
PROOFS, ticks (chapter 4) keep the fields sound: the guard is moved at the lead alone, a value goes to all mirrors of a key alike, and
what becomes due is LIVE.
-/

namespace Sys2Proof.Machine

/-! ## The guard (R72, R73) -/

/-- The record of a HELD tick's key with its print kept, in the guard fields of the lead (R72). -/
def Record.printed (r : Record) (v : Int) (isLead : Bool) : Record :=
  { r with
    suspect := true
    suspectValue := if isLead then some v else r.suspectValue
    holdCount := if isLead then r.holdCount + 1 else r.holdCount }

section
variable (s : State) (lead : Nat) (others : List Nat)

/-- An update of the lead followed by one of every mirror. -/
theorem State.lead_then_mirrors_changes (hl : (lead :: others).Nodup) (f g : Record → Record) :
    s.Changes (lead :: others) (fun j r => g (if j = lead then f r else r))
      ((lead :: others).foldl (fun t k => t.updSlot k g) (s.updSlot lead f)) := by
  have all : (s.updSlot lead f).Changes (lead :: others) (fun _ => g) _ :=
    State.Changes.foldl (state := fun t => t) (f := fun t k => State.updSlot t k g) _ hl
      (fun t k _ => t.updSlot_changes k g) rfl
  refine ((s.updSlot_changes lead f).trans all).congr (by simp) fun j hj => ?_
  rw [if_pos (List.mem_append_right _ hj), if_pos hj]
  simp only [List.mem_singleton]

theorem State.clearGuard_changes (hl : (lead :: others).Nodup) :
    s.Changes (lead :: others) (fun j r => r.guardCleared (j = lead)) (s.clearGuard (lead :: others)) := by
  refine (s.lead_then_mirrors_changes lead others hl (fun r => { r with suspectValue := none, holdCount := 0 })
    (fun r => { r with suspect := false })).congr (fun _ => id) fun j hj => ?_
  rw [if_pos hj]
  by_cases h : j = lead <;> simp [h, Record.guardCleared]

theorem State.Changes.raise {s t : State} {l : List Nat} {g : Nat → Record → Record} (c : s.Changes l g t) (flag : StickyFlag) :
    s.Changes l g (t.raise flag) :=
  ⟨c.slot, c.chains, c.liveCount, c.retiringCount, c.freeCount, c.agu, c.listed, c.nodup⟩

theorem State.holdPrint_changes (hl : (lead :: others).Nodup) (v : Int) :
    s.Changes (lead :: others) (fun j r => r.printed v (j = lead)) (s.holdPrint lead (lead :: others) v) := by
  refine ((s.lead_then_mirrors_changes lead others hl (fun r => { r with suspectValue := some v, holdCount := r.holdCount + 1 })
    (fun r => { r with suspect := true })).congr (fun _ => id) fun j hj => ?_).raise .held
  rw [if_pos hj]
  by_cases h : j = lead <;> simp [h, Record.printed]

end

section
variable {s t : State} {instrument lead : Nat} {kind : Kind} {others : List Nat} {g : Nat → Record → Record}

/-- The guard state is sound after the lead of a tickable key has been given one and its mirrors have been marked by it. -/
theorem State.FieldsSound.guardSound_of_changes (h : s.FieldsSound) (hm : s.mirrors instrument kind = lead :: others)
    (c : s.Changes (lead :: others) g t) (same : s.SameIndex t) (htick : kind.tickable = true) {print : Option Int} {count : Nat}
    (hcount : count ≤ 3 ∧ (print = none → count = 0))
    (suspect : ∀ j ∈ lead :: others, (g j (s.slot j)).suspect = print.isSome)
    (led : (g lead (s.slot lead)).guard = (print, count))
    (unled : ∀ j ∈ lead :: others, j ≠ lead → (g j (s.slot j)).guard = (s.slot j).guard) : t.GuardSound := by
  have mem (j : Nat) : j ∈ lead :: others ↔
      s.isLive j = true ∧ (s.slot j).instrument = instrument ∧ (s.slot j).kind = kind := by
    rw [← hm, h.chains.mem_mirrors]
  have hlead : s.lead instrument kind = some lead := by rw [State.lead_eq_head?, hm]; rfl
  have key (j : Nat) (hj : j ∈ lead :: others) : t.lead (t.slot j).instrument (t.slot j).kind = some lead := by
    obtain ⟨_, hi, hk⟩ := (mem j).1 hj
    rw [same.lead, same.instrument, same.kind, hi, hk, hlead]
  have ledSlot : (t.slot lead).suspectValue = print ∧ (t.slot lead).holdCount = count := by
    rw [c.slot_mem (List.mem_cons_self ..)]
    exact Prod.mk.inj led
  have guard (j : Nat) (hj : j ≠ lead) :
      (t.slot j).suspectValue = (s.slot j).suspectValue ∧ (t.slot j).holdCount = (s.slot j).holdCount := by
    rw [c.slot]
    split
    · next hmem => exact Record.guard_eq_iff.1 (unled j hmem hj)
    · exact ⟨rfl, rfl⟩
  /- a lead of any key that is not the lead of this one has another key, or is no mirror of this one -/
  have leads (i : Nat) (k : Kind) (l : Nat) (hl : t.lead i k = some l) : l ∈ t.mirrors i k := List.mem_of_head? hl
  have mirrorKey (i : Nat) (k : Kind) (j : Nat) (hj : j ∈ t.mirrors i k) :
      (t.slot j).instrument = i ∧ (t.slot j).kind = k := ((same.chainsSound h.chains).mem_mirrors.1 hj).2
  refine ⟨fun i k l hl => ?_, fun i k l j hl hj => ?_, fun j hj => ?_, fun j hj => ?_⟩
  · by_cases heq : l = lead
    · subst heq
      rw [ledSlot.1, ledSlot.2]
      exact hcount
    · rw [(guard l heq).1, (guard l heq).2]
      exact h.guarded.lead i k l (same.lead i k ▸ hl)
  · by_cases hmem : j ∈ lead :: others
    · have hlead' : l = lead := by
        have := key j hmem
        rw [(mirrorKey i k j hj).1, (mirrorKey i k j hj).2, hl] at this
        exact Option.some.inj this
      rw [hlead', ledSlot.1, c.slot_mem hmem, suspect j hmem]
    · have hne : l ≠ lead := by
        rintro rfl
        refine hmem ((mem j).2 ⟨?_, ?_, ?_⟩)
        · exact (same.isLive j).symm.trans ((same.chainsSound h.chains).mem_mirrors.1 hj).1
        · obtain ⟨_, hi, _⟩ := (mem l).1 (List.mem_cons_self ..)
          rw [← same.instrument, (mirrorKey i k j hj).1, ← (mirrorKey i k l (leads i k l hl)).1, same.instrument, hi]
        · obtain ⟨_, _, hk⟩ := (mem l).1 (List.mem_cons_self ..)
          rw [← same.kind, (mirrorKey i k j hj).2, ← (mirrorKey i k l (leads i k l hl)).2, same.kind, hk]
      rw [c.slot_of_not_mem hmem, (guard l hne).1]
      exact h.guarded.suspects i k l j (same.lead i k ▸ hl) (same.mirrors i k ▸ hj)
  · have hne : j ≠ lead := by
      rintro rfl
      exact hj (key j (List.mem_cons_self ..))
    rw [(guard j hne).1, (guard j hne).2]
    exact h.guarded.others j (by rwa [same.lead, same.instrument, same.kind] at hj)
  · rw [same.kind] at hj
    have hmem : j ∉ lead :: others := fun hmem => by
      rw [((mem j).1 hmem).2.2, htick] at hj
      exact Bool.noConfusion hj
    rw [c.slot_of_not_mem hmem]
    exact h.guarded.derived j hj

end

/-! ### The two ways of a tick with the guard -/

section
variable {s : State} {instrument lead : Nat} {kind : Kind} {others : List Nat}
  (h : s.FieldsSound) (hm : s.mirrors instrument kind = lead :: others) (htick : kind.tickable = true)
include h hm htick

/-- Clearing the guard of a key keeps the fields sound (R73). -/
theorem State.FieldsSound.clearGuard : s.KeepsFields (s.clearGuard (lead :: others)) := by
  have c := s.clearGuard_changes lead others (hm ▸ h.chains.mirrors_nodup instrument kind)
  have same : s.SameIndex _ := c.sameIndex fun _ _ => rfl
  have live (j : Nat) (hj : j ∈ lead :: others) : s.isLive j = true := (h.chains.mem_mirrors.1 (hm ▸ hj)).1
  refine h.changes c live same (fun j hj => ?_) (h.mirrorsAgree_of_changes hm c same fun _ _ r x hshared => ?_)
    (h.guardSound_of_changes hm c same htick (print := none) (count := 0) (by decide) (fun _ _ => rfl) ?_ fun j _ hne => ?_)
  · obtain ⟨hcurrent, hprevious, hreference, hlast, hsuspect⟩ := (h.records j).values
    exact { h.records j with
      free := fun hfree => SlotState.noConfusion (((s.isLive_iff j).1 (live j hj)).symm.trans hfree)
      values := ⟨hcurrent, hprevious, hreference, hlast, inValueRange_ite inValueRange_none hsuspect⟩ }
  · obtain ⟨hcurrent, hprevious, hdirection, hstale, _, hreference, hlast⟩ := Record.shared_eq_iff.1 hshared
    exact Record.shared_eq_iff.2 ⟨hcurrent, hprevious, hdirection, hstale, rfl, hreference, hlast⟩
  · simp [Record.guardCleared, Record.guard]
  · simp [Record.guardCleared, Record.guard, hne]

/-- A HELD tick keeps the fields sound: the lead has held fewer than three prints before it (R72). -/
theorem State.FieldsSound.holdPrint {v : Int} (hv : -2147483647 ≤ v ∧ v ≤ 2147483647) (hcount : (s.slot lead).holdCount ≠ 3) :
    s.KeepsFields (s.holdPrint lead (lead :: others) v) := by
  have c := s.holdPrint_changes lead others (hm ▸ h.chains.mirrors_nodup instrument kind) v
  have same : s.SameIndex _ := c.sameIndex fun _ _ => rfl
  have live (j : Nat) (hj : j ∈ lead :: others) : s.isLive j = true := (h.chains.mem_mirrors.1 (hm ▸ hj)).1
  have hheld : (s.slot lead).holdCount ≤ 3 :=
    (h.guarded.lead instrument kind lead (by rw [State.lead_eq_head?, hm]; rfl)).1
  refine h.changes c live same (fun j hj => ?_) (h.mirrorsAgree_of_changes hm c same fun _ _ r x hshared => ?_)
    (h.guardSound_of_changes hm c same htick (print := some v) (count := (s.slot lead).holdCount + 1)
      ⟨by omega, nofun⟩ (fun _ _ => rfl) ?_ fun j _ hne => ?_)
  · obtain ⟨hcurrent, hprevious, hreference, hlast, hsuspect⟩ := (h.records j).values
    exact { h.records j with
      free := fun hfree => SlotState.noConfusion (((s.isLive_iff j).1 (live j hj)).symm.trans hfree)
      values := ⟨hcurrent, hprevious, hreference, hlast, inValueRange_ite (inValueRange_some hv) hsuspect⟩ }
  · obtain ⟨hcurrent, hprevious, hdirection, hstale, _, hreference, hlast⟩ := Record.shared_eq_iff.1 hshared
    exact Record.shared_eq_iff.2 ⟨hcurrent, hprevious, hdirection, hstale, rfl, hreference, hlast⟩
  · simp [Record.printed, Record.guard]
  · simp [Record.printed, Record.guard, hne]

end

/-! ## Values to all mirrors of a key -/

/-- What a tick keeps on its way from `a` to `b`: sound fields, the settings of AGU, and LIVE records alone among those it makes
due. -/
structure TickAcc.Keeps (a b : TickAcc) : Prop where
  fields : a.state.KeepsFields b.state
  agu : b.state.agu = a.state.agu
  due : ∀ k ∈ b.due, k ∈ a.due ∨ a.state.isLive k = true

namespace TickAcc.Keeps

theorem refl {a : TickAcc} (h : a.state.FieldsSound) : a.Keeps a := ⟨h.keeps_self, rfl, fun _ => .inl⟩

theorem trans {a b c : TickAcc} (hab : a.Keeps b) (hbc : b.Keeps c) : a.Keeps c where
  fields := hab.fields.trans hbc.fields
  agu := hbc.agu.trans hab.agu
  due k hk := (hbc.due k hk).elim (hab.due k) fun live => .inr ((hab.fields.same.isLive k).symm.trans live)

/-- Only the count of updated records differs. -/
theorem of_updated {a b : TickAcc} {n : Nat} (h : ({ a with updated := n } : TickAcc).Keeps b) : a.Keeps b :=
  ⟨h.fields, h.agu, h.due⟩

end TickAcc.Keeps

/-- A fold makes due what was due before and at most the slots it runs over. -/
theorem due_foldl {f : TickAcc → Nat → TickAcc} (hf : ∀ a k, ∀ j ∈ (f a k).due, j ∈ a.due ∨ j = k) (l : List Nat)
    (a : TickAcc) :
    ∀ j ∈ (l.foldl f a).due, j ∈ a.due ∨ j ∈ l := by
  induction l generalizing a with
  | nil => exact fun _ => .inl
  | cons k rest ih =>
    intro j hj
    rcases ih (f a k) j hj with hdue | hrest
    · exact (hf a k j hdue).imp_right fun heq : j = k => heq ▸ List.mem_cons_self
    · exact .inr (List.mem_cons_of_mem _ hrest)

/-- A fold that changes the records of one key alike, leaving key and guard state, keeps what a tick keeps. -/
theorem TickAcc.Keeps.foldl_mirrors {a : TickAcc} (h : a.state.FieldsSound) {f : TickAcc → Nat → TickAcc}
    {g : Agu → Record → Record} (instrument : Nat) (kind : Kind)
    (step : ∀ (b : TickAcc) k, b.state.Changes [k] (fun _ => g b.state.agu) (f b k).state)
    (due : ∀ (b : TickAcc) k, ∀ j ∈ (f b k).due, j ∈ b.due ∨ j = k)
    (views : ∀ agu r, (g agu r).key = r.key ∧ (g agu r).guard = r.guard ∧ (g agu r).suspect = r.suspect)
    (shared : ∀ agu (r x : Record), r.shared = x.shared → (g agu r).shared = (g agu x).shared)
    (records : ∀ r : Record, r.Sound → r.state = .live → r.kind = kind → (g a.state.agu r).Sound) :
    a.Keeps ((a.state.mirrors instrument kind).foldl f a) := by
  have c : a.state.Changes (a.state.mirrors instrument kind) (fun _ => g a.state.agu) _ :=
    State.Changes.foldl (state := TickAcc.state) (f := f) _ (h.chains.mirrors_nodup instrument kind)
      (fun b k hagu => hagu ▸ step b k) rfl
  refine ⟨h.changes_mirrors c (fun r => (views _ r).1) (fun r => (views _ r).2.1) (fun r => (views _ r).2.2) (shared _) records,
    c.agu, fun k hk => (due_foldl due _ a k hk).imp_right fun hmem => (h.chains.mem_mirrors.1 hmem).1⟩

theorem TickAcc.apply_changes (a : TickAcc) (k : Nat) (v : Int) (direction : Direction) :
    a.state.Changes [k] (fun _ r => r.valued v direction a.state.agu) (a.apply k v direction).state :=
  a.state.applyValue_changes k v direction

theorem TickAcc.freshen_changes (a : TickAcc) (k : Nat) :
    a.state.Changes [k] (fun _ r => { r with stale := false }) (a.freshen k).state := a.state.updSlot_changes k _

theorem TickAcc.apply_due (a : TickAcc) (k : Nat) (v : Int) (direction : Direction) :
    ∀ j ∈ (a.apply k v direction).due, j ∈ a.due ∨ j = k := by
  intro j hj
  exact (List.mem_append.1 hj).imp_right List.mem_singleton.1

theorem TickAcc.freshen_due (a : TickAcc) (k : Nat) : ∀ j ∈ (a.freshen k).due, j ∈ a.due ∨ j = k := by
  intro j hj
  simp only [TickAcc.freshen] at hj
  split at hj
  · exact (List.mem_append.1 hj).imp_right List.mem_singleton.1
  · exact .inl hj

/-! ### Fan-out (R78 to R81) -/

/-- The operand of a NET mirror noted (R79). -/
def TickAcc.withOperand (a : TickAcc) (k : Nat) (v : Int) : TickAcc :=
  { a with state := a.state.updSlot k (fun x => { x with lastOperand := some v }) }

theorem TickAcc.withOperand_changes (a : TickAcc) (k : Nat) (v : Int) :
    a.state.Changes [k] (fun _ r => { r with lastOperand := some v }) (a.withOperand k v).state := a.state.updSlot_changes k _

theorem fanNet_eq_of_some {v reference : Int} {a : TickAcc} {k : Nat} (h : (a.state.slot k).reference = some reference) :
    fanNet v a k = (a.withOperand k v).apply k
      (saturate (v - reference)) (classOf (a.state.slot k).current (saturate (v - reference))) := by
  simp only [fanNet, h]
  rfl

theorem fanNet_eq_of_none {v : Int} {a : TickAcc} {k : Nat} (h : (a.state.slot k).reference = none) :
    fanNet v a k = (a.withOperand k v).freshen k := by
  simp only [fanNet, h]
  rfl

theorem fanNet_changes (v : Int) (a : TickAcc) (k : Nat) :
    a.state.Changes [k] (fun _ r => r.fannedNet v a.state.agu) (fanNet v a k).state := by
  cases hreference : (a.state.slot k).reference with
  | some reference =>
    rw [fanNet_eq_of_some hreference]
    refine ((a.withOperand_changes k v).comp (TickAcc.apply_changes _ k _ _)).congr (fun _ => id) fun j hj => ?_
    rw [if_pos hj, List.mem_singleton.1 hj, Record.fannedNet_of_some hreference]
    rfl
  | none =>
    rw [fanNet_eq_of_none hreference]
    refine ((a.withOperand_changes k v).comp (TickAcc.freshen_changes _ k)).congr (fun _ => id) fun j hj => ?_
    rw [if_pos hj, List.mem_singleton.1 hj, Record.fannedNet_of_none hreference]

theorem fanNet_due (v : Int) (a : TickAcc) (k : Nat) : ∀ j ∈ (fanNet v a k).due, j ∈ a.due ∨ j = k := by
  cases hreference : (a.state.slot k).reference with
  | some reference =>
    rw [fanNet_eq_of_some hreference]
    exact TickAcc.apply_due _ k _ _
  | none =>
    rw [fanNet_eq_of_none hreference]
    exact TickAcc.freshen_due _ k

/-- The fan-out to a HIGH or a LOW mirror: the value applied to a record without one or with one it beats. -/
def fanExtreme (v : Int) (beats : Int → Bool) (direction : Direction) (a : TickAcc) (k : Nat) : TickAcc :=
  match (a.state.slot k).current with
  | none => a.apply k v .first
  | some c => if beats c then a.apply k v direction else a.freshen k

theorem fanHigh_eq (v : Int) : fanHigh v = fanExtreme v (fun c => c < v) .up := by
  funext a k
  unfold fanHigh fanExtreme
  cases (a.state.slot k).current <;> simp

theorem fanLow_eq (v : Int) : fanLow v = fanExtreme v (fun c => v < c) .down := by
  funext a k
  unfold fanLow fanExtreme
  cases (a.state.slot k).current <;> simp

section
variable (v : Int) (beats : Int → Bool) (direction : Direction) (a : TickAcc) (k : Nat)

theorem fanExtreme_changes :
    a.state.Changes [k] (fun _ r => r.fannedExtreme v beats direction a.state.agu) (fanExtreme v beats direction a k).state := by
  cases hcurrent : (a.state.slot k).current with
  | none =>
    simp only [fanExtreme, hcurrent]
    refine (a.apply_changes k v .first).congr (fun _ => id) fun j hj => ?_
    rw [if_pos hj, List.mem_singleton.1 hj, Record.fannedExtreme_of_none hcurrent]
  | some c =>
    simp only [fanExtreme, hcurrent]
    cases hbeats : beats c with
    | true =>
      refine (a.apply_changes k v direction).congr (fun _ => id) fun j hj => ?_
      rw [if_pos hj, List.mem_singleton.1 hj, Record.fannedExtreme_of_some hcurrent, if_pos hbeats]
    | false =>
      refine (a.freshen_changes k).congr (fun _ => id) fun j hj => ?_
      rw [if_pos hj, List.mem_singleton.1 hj, Record.fannedExtreme_of_some hcurrent, if_neg (by rw [hbeats]; nofun)]

theorem fanExtreme_due : ∀ j ∈ (fanExtreme v beats direction a k).due, j ∈ a.due ∨ j = k := by
  unfold fanExtreme
  split
  · exact a.apply_due k v _
  · split
    · exact a.apply_due k v _
    · exact a.freshen_due k

end

/-- A LAST value fanned out to the derived records of its instrument, in any state with the index of the one the tick began in. -/
theorem TickAcc.Keeps.fanOut {s : State} {a : TickAcc} (same : s.SameIndex a.state) (h : a.state.FieldsSound)
    (hagu : a.state.agu.InRange) (instrument : Nat) {v : Int} (hv : -2147483647 ≤ v ∧ v ≤ 2147483647) :
    a.Keeps (fanOut s instrument v a) := by
  have nets := TickAcc.Keeps.foldl_mirrors h (f := fanNet v) (g := fun agu r => r.fannedNet v agu) instrument .net (fanNet_changes v)
    (fanNet_due v) (fun agu r => r.fannedNet_views v agu) (fun agu _ _ => Record.fannedNet_shared_congr v agu)
    (fun r hr live hkind => hr.fannedNet live hkind hv hagu)
  have extremes {b : TickAcc} (kept : a.Keeps b) (beats : Int → Bool) (direction : Direction) {kind : Kind}
      (hkind : kind = .high ∨ kind = .low) :=
    kept.trans (TickAcc.Keeps.foldl_mirrors kept.fields.sound (f := fanExtreme v beats direction)
      (g := fun agu r => r.fannedExtreme v beats direction agu) instrument kind (fanExtreme_changes v beats direction)
      (fanExtreme_due v beats direction) (fun agu r => r.fannedExtreme_views v direction beats agu)
      (fun agu _ _ => Record.fannedExtreme_shared_congr v direction beats agu)
      (fun r hr live hk => hr.fannedExtreme live (hk ▸ hkind) hv beats direction (kept.agu.symm ▸ hagu)))
  have highs := extremes nets (fun c => c < v) .up (.inl rfl)
  rw [nets.fields.same.mirrors] at highs
  have lows := extremes highs (fun c => v < c) .down (.inr rfl)
  rw [highs.fields.same.mirrors] at lows
  simp only [Machine.fanOut, fanHigh_eq, fanLow_eq, ← same.mirrors]
  exact lows

/-! ## A whole tick (R69 to R82) -/

theorem clampTick_range (kind : Kind) {v : Int} (hv : v ≤ 2147483647) :
    (-2147483647 ≤ clampTick kind v ∧ clampTick kind v ≤ 2147483647) ∧ (kind = .size → 0 ≤ clampTick kind v) := by
  simp only [clampTick]
  split
  · exact ⟨by decide, fun _ => Int.le_refl _⟩
  · next hnot =>
    refine ⟨by omega, fun hsize => ?_⟩
    have := mt (And.intro hsize) hnot
    omega

theorem Kind.ne_net_of_tickable {kind : Kind} (h : kind.tickable = true) : kind ≠ .net := by
  rintro rfl
  exact Bool.noConfusion h

/-- A lead that has held three prints holds no fourth (Table 4-2). -/
theorem guardVerdict_ne_held {r : Record} (h : r.holdCount = 3) (v : Int) : guardVerdict r v ≠ .held := by
  unfold guardVerdict
  simp only [h, if_true]
  repeat' split
  all_goals nofun

section
variable {a : TickAcc} (h : a.state.FieldsSound) (hagu : a.state.agu.InRange) (instrument : Nat) {kind : Kind}
  (htick : kind.tickable = true)
include h hagu htick

/-- An accepted tick: the guard cleared, the value applied to every mirror, a LAST value fanned out (R73 to R75, R78). -/
theorem TickAcc.Keeps.acceptTick {v : Int} (hv : -2147483647 ≤ v ∧ v ≤ 2147483647) (hsize : kind = .size → 0 ≤ v)
    (direction : Direction) : a.Keeps (acceptTick a instrument kind v direction) := by
  have cleared : a.Keeps { a with state := a.state.clearGuard (a.state.mirrors instrument kind) } := by
    cases hm : a.state.mirrors instrument kind with
    | nil => exact .refl h
    | cons lead others => 
      have c := a.state.clearGuard_changes lead others (hm ▸ h.chains.mirrors_nodup instrument kind)
      exact ⟨h.clearGuard hm htick, c.agu, fun _ => .inl⟩
  have applied := cleared.trans (TickAcc.Keeps.foldl_mirrors cleared.fields.sound (f := fun a k => a.apply k v direction)
    (g := fun agu r => r.valued v direction agu) instrument kind (fun b k => b.apply_changes k v direction)
    (fun b k => b.apply_due k v direction) (fun agu r => r.valued_views v direction agu)
    (fun agu _ _ hshared => Record.valued_shared_congr v direction agu hshared rfl)
    (fun r hr live hkind => hr.valued live hv (fun hs => hsize (hkind ▸ hs)) (hkind ▸ Kind.ne_net_of_tickable htick) direction
      (cleared.agu.symm ▸ hagu)))
  rw [cleared.fields.same.mirrors] at applied
  simp only [Machine.acceptTick]
  split
  · exact applied.trans (.fanOut applied.fields.same applied.fields.sound (applied.agu.symm ▸ hagu) instrument hv)
  · exact applied

/-- One tick keeps the fields sound and makes LIVE records due. -/
theorem TickAcc.Keeps.evaluateTick {value : Int} (hvalue : value ≤ 2147483647) :
    a.Keeps (evaluateTick a instrument kind value).2 := by
  obtain ⟨hv, hsize⟩ := clampTick_range kind hvalue
  have accepted (direction : Direction) :=
    TickAcc.Keeps.of_updated (TickAcc.Keeps.acceptTick (a := { a with updated := 0 }) h hagu instrument htick hv hsize direction)
  simp only [Machine.evaluateTick]
  split
  · split
    · exact accepted .first
    · exact .of_updated (.refl h)
  · next lead others hm =>
    split
    · next hverdict =>
      have hcount : (a.state.slot lead).holdCount ≠ 3 := fun hthree => guardVerdict_ne_held hthree _ hverdict
      have c := a.state.holdPrint_changes lead others (hm ▸ h.chains.mirrors_nodup instrument kind) (clampTick kind value)
      exact ⟨h.holdPrint hm htick hv hcount, c.agu, fun k hk => (List.mem_append.1 hk).imp_right
        fun hmem => (h.chains.mem_mirrors.1 (hm ▸ hmem)).1⟩
    · exact accepted _

end

end Sys2Proof.Machine
end

section
/-!
PROOFS, the other commands and events that move no slot from state to state, each keeping the fields sound.
-/

namespace Sys2Proof.Machine

/-! ## Quantities of a message -/

theorem u8_lt (p : List Byte) (i : Nat) : u8 p i < 256 := BitVec.isLt _

theorem s32_range (p : List Byte) (i : Nat) : -2147483648 ≤ s32 p i ∧ s32 p i ≤ 2147483647 := by
  have h0 := u8_lt p i
  have h1 := u8_lt p (i + 1)
  have h2 := u8_lt p (i + 2)
  have h3 := u8_lt p (i + 3)
  unfold s32 u32 u24 u16
  split <;> omega

theorem Kind.tickable_iff (kind : Kind) : kind.tickable = true ↔ kind.number < 4 := by simp [Kind.tickable]

/-- QTICK's values are of tickable kinds (R68). -/
theorem mem_qtickValues {p : List Byte} {kind : Kind} {v : Int} (h : (kind, v) ∈ qtickValues p) (hcount : ¬ 4 < u8 p 3 + u8 p 4) :
    kind.tickable = true ∧ v ≤ 2147483647 := by
  simp only [qtickValues, List.mem_filterMap, List.mem_range, Option.map_eq_some_iff, Prod.mk.injEq] at h
  obtain ⟨i, hi, k, hk, rfl, rfl⟩ := h
  rw [Kind.ofNumber_eq_some_iff] at hk
  exact ⟨(Kind.tickable_iff k).2 (by omega), (s32_range p _).2⟩

/-! ## Becoming due (R140, R141) -/

namespace State.FieldsSound

variable {s : State} (h : s.FieldsSound)
include h

theorem enqueue {k : Nat} (hstate : (s.slot k).state ≠ .free) : s.KeepsFields (s.enqueue k) := by
  have flagged : s.KeepsFields (s.updSlot k (fun r => { r with queued := true })) :=
    h.updSlot rfl rfl rfl { h.records k with free := fun hfree => absurd hfree hstate }
  exact flagged.trans (flagged.sound.of_same rfl (.refl _))

theorem becomeDue {k : Nat} (hstate : (s.slot k).state ≠ .free) : s.KeepsFields (s.becomeDue k) := by
  unfold State.becomeDue
  split
  · exact h.keeps_self
  · split
    · exact h.updSlot rfl rfl rfl { h.records k with free := fun hfree => absurd hfree hstate }
    · exact h.enqueue hstate

theorem joinGroup {due : List Nat} (hdue : ∀ k ∈ due, (s.slot k).state ≠ .free) : s.KeepsFields (s.joinGroup due) :=
  h.foldl _ fun t k kept hk => kept.sound.becomeDue (by
    rw [kept.same.state]
    exact hdue k (by simpa using (List.mem_filter.1 hk).2))

end State.FieldsSound

theorem State.not_free_of_live {s : State} {k : Nat} (h : s.isLive k = true) : (s.slot k).state ≠ .free := by
  rw [(s.isLive_iff k).1 h]
  nofun

/-- A group of LIVE records made due after an update that keeps the fields. -/
theorem State.KeepsFields.joinGroup {s t : State} (kept : s.KeepsFields t) {due : List Nat}
    (hdue : ∀ k ∈ due, s.isLive k = true) : s.KeepsFields (t.joinGroup due) :=
  kept.trans (kept.sound.joinGroup fun k hk => State.not_free_of_live ((kept.same.isLive k).trans (hdue k hk)))

/-! ## TICK and QTICK (R67, R68) -/

theorem TickAcc.Keeps.evaluateTicks (instrument : Nat) (values : List (Kind × Int))
    (hvalues : ∀ x ∈ values, x.1.tickable = true ∧ x.2 ≤ 2147483647) {a : TickAcc} (h : a.state.FieldsSound)
    (hagu : a.state.agu.InRange) (out : List Byte) : a.Keeps (evaluateTicks instrument values a out).1 := by
  induction values generalizing a out with
  | nil => exact .refl h
  | cons value rest ih =>
    obtain ⟨htick, hle⟩ := hvalues value (List.mem_cons_self ..)
    have first := TickAcc.Keeps.evaluateTick h hagu instrument htick hle
    exact first.trans (ih (fun x hx => hvalues x (List.mem_cons_of_mem _ hx)) first.fields.sound (first.agu.symm ▸ hagu) _)

/-- What a tick has done is brought to its end by making its records due. -/
theorem TickAcc.Keeps.joinGroup {s : State} {a : TickAcc} (h : TickAcc.Keeps ⟨s, [], 0⟩ a) :
    s.KeepsFields (a.state.joinGroup a.due) :=
  h.fields.joinGroup fun k hk => (h.due k hk).resolve_left List.not_mem_nil

/-! ## All records of a key -/

/-- A fold that changes the records of one key alike, leaving key and guard state. -/
theorem State.FieldsSound.foldl_mirrors {s : State} (h : s.FieldsSound) {f : State → Nat → State} {g : Agu → Record → Record}
    (instrument : Nat) (kind : Kind) (step : ∀ (t : State) k, t.Changes [k] (fun _ => g t.agu) (f t k))
    (views : ∀ agu r, (g agu r).key = r.key ∧ (g agu r).guard = r.guard ∧ (g agu r).suspect = r.suspect)
    (shared : ∀ agu (r x : Record), r.shared = x.shared → (g agu r).shared = (g agu x).shared)
    (records : ∀ r : Record, r.Sound → r.state = .live → r.kind = kind → (g s.agu r).Sound) :
    s.KeepsFields ((s.mirrors instrument kind).foldl f s) ∧ ((s.mirrors instrument kind).foldl f s).agu = s.agu := by
  have c : s.Changes (s.mirrors instrument kind) (fun _ => g s.agu) _ :=
    State.Changes.foldl (state := fun t => t) (f := f) _ (h.chains.mirrors_nodup instrument kind)
      (fun t k hagu => hagu ▸ step t k) rfl
  exact ⟨h.changes_mirrors c (fun r => (views _ r).1) (fun r => (views _ r).2.1) (fun r => (views _ r).2.2) (shared _) records,
    c.agu⟩

/-! ### A TICK highlight ended (R83, R84) -/

theorem Record.endTick_views (r : Record) : r.endTick.key = r.key ∧ r.endTick.guard = r.guard ∧ r.endTick.suspect = r.suspect
    ∧ r.endTick.shared = r.shared := by
  unfold Record.endTick
  split <;> exact ⟨rfl, rfl, rfl, rfl⟩

theorem Record.Sound.endTick {r : Record} (h : r.banded.Sound) (live : r.state = .live) : r.endTick.banded.Sound := by
  unfold Record.endTick
  split
  · exact { h with
      free := fun hfree => SlotState.noConfusion (live.symm.trans hfree)
      age := ⟨Nat.zero_le _, fun _ => rfl, fun _ => rfl⟩
      mask := ⟨nofun, fun _ => rfl⟩
      aged := fun _ => rfl }
  · exact h

/-! ### REFER (R83) -/

/-- REFER's steps 1 to 4: the reference, the value it gives, and its direction. -/
def Record.rereferenced (r : Record) (reference : Option Int) : Record :=
  { r with
    reference := reference
    current := netValue reference r.lastOperand
    previous := if r.current.isSome then r.current else r.previous
    newValue := if r.current.isNone && (netValue reference r.lastOperand).isNone then r.newValue else true
    direction := if (netValue reference r.lastOperand).isSome then .first else .unset }

theorem Record.referred_eq (r : Record) (reference : Option Int) : r.referred reference = (r.rereferenced reference).endTick := by
  simp only [Record.referred, Record.rereferenced]
  cases hcurrent : r.current <;> cases netValue reference r.lastOperand <;> simp

theorem Record.Sound.referred {r : Record} (h : r.Sound) (live : r.state = .live) (hkind : r.kind = .net)
    {reference : Option Int} (hreference : inValueRange reference) : (r.referred reference).banded.Sound := by
  obtain ⟨hcurrent, hprevious, _, hlast, hsuspect⟩ := h.values
  rw [Record.referred_eq]
  refine Record.Sound.endTick ?_ live
  exact { h with
    free := fun hfree => SlotState.noConfusion (live.symm.trans hfree)
    values := ⟨netValue_range _ _, inValueRange_ite hcurrent hprevious, hreference, hlast, hsuspect⟩
    size := fun hsize => Kind.noConfusion (hkind.symm.trans hsize)
    operands := fun hother => absurd hkind hother
    net := fun _ => rfl
    band := rfl
    alert := rfl }

theorem Record.referred_views (r : Record) (reference : Option Int) : (r.referred reference).key = r.key
    ∧ (r.referred reference).guard = r.guard ∧ (r.referred reference).suspect = r.suspect := by
  obtain ⟨hkey, hguard, hsuspect, _⟩ := (r.rereferenced reference).endTick_views
  rw [Record.referred_eq]
  exact ⟨hkey, hguard, hsuspect⟩

theorem Record.referred_shared_congr {r x : Record} (h : r.shared = x.shared) (reference : Option Int) :
    (r.referred reference).shared = (x.referred reference).shared := by
  obtain ⟨hcurrent, hprevious, _, hstale, hsuspect, _, hlast⟩ := Record.shared_eq_iff.1 h
  rw [Record.referred_eq, Record.referred_eq, (Record.endTick_views _).2.2.2, (Record.endTick_views _).2.2.2]
  simp only [Record.shared, Record.rereferenced, hcurrent, hprevious, hstale, hsuspect, hlast]

/-! ### EXTREMES_CLEAR (R84) -/

theorem Record.Sound.restarted {r : Record} (h : r.Sound) (live : r.state = .live) (hkind : r.kind = .high ∨ r.kind = .low)
    {v : Option Int} (hv : inValueRange v) : (r.restarted v).banded.Sound := by
  obtain ⟨_, _, hreference, hlast, hsuspect⟩ := h.values
  refine Record.Sound.endTick ?_ live
  exact { h with
    free := fun hfree => SlotState.noConfusion (live.symm.trans hfree)
    values := ⟨hv, inValueRange_none, hreference, hlast, hsuspect⟩
    size := fun hsize => by rcases hkind with hk | hk <;> exact Kind.noConfusion (hk.symm.trans hsize)
    net := fun hnet => by rcases hkind with hk | hk <;> exact Kind.noConfusion (hk.symm.trans hnet)
    band := rfl
    alert := rfl }

theorem Record.restarted_views (r : Record) (v : Option Int) : (r.restarted v).key = r.key
    ∧ (r.restarted v).guard = r.guard ∧ (r.restarted v).suspect = r.suspect := by
  obtain ⟨hkey, hguard, hsuspect, _⟩ := Record.endTick_views { r with
    current := v, direction := if v.isSome then .first else .unset, previous := none
    newValue := if r.current.isNone && v.isNone then r.newValue else true }
  exact ⟨hkey, hguard, hsuspect⟩

theorem Record.restarted_shared_congr {r x : Record} (h : r.shared = x.shared) (v : Option Int) :
    (r.restarted v).shared = (x.restarted v).shared := by
  obtain ⟨_, _, _, hstale, hsuspect, hreference, hlast⟩ := Record.shared_eq_iff.1 h
  simp only [Record.restarted]
  rw [(Record.endTick_views _).2.2.2, (Record.endTick_views _).2.2.2]
  simp only [Record.shared, hstale, hsuspect, hreference, hlast]

end Sys2Proof.Machine
end

section
/-!
PROOFS, every command and event that moves no slot from state to state, each keeping the fields sound.
-/

namespace Sys2Proof.Machine

/-! ## Settings (R26, R51) -/

/-- Settings in their ranges (R26). -/
structure Settings.InRange (x : Settings) : Prop where
  format : sourceOk x.format.mode x.format.source = true
  display : x.format.display ≤ x.format.source
  limits : -2147483648 ≤ x.lo ∧ x.lo ≤ x.hi ∧ x.hi ≤ 2147483647
  filter : x.filter ≤ 2147483647

/-- Settings that pass their checks are stored within their ranges. -/
theorem storedSettings_inRange {p : List Byte} {i : Nat} (h : firstRefusal (settingsChecks p i) = none) :
    (storedSettings p i).InRange := by
  simp only [settingsChecks, formatChecks, firstRefusal_eq_none_iff, List.forall_mem_append, List.forall_mem_cons,
    decide_eq_false_iff_not] at h
  obtain ⟨⟨hmode, hsource, _⟩, _, hfilter, hlimits, _⟩ := h
  obtain ⟨hlo, _⟩ := s32_range p (i + 5)
  obtain ⟨_, hhi⟩ := s32_range p (i + 9)
  obtain ⟨_, hlimit⟩ := s32_range p (i + 13)
  refine ⟨?_, Nat.min_le_right _ _, ⟨hlo, Int.not_lt.1 hlimits, hhi⟩, ?_⟩
  · rw [← decide_eq_false_iff_not, sourceOk_eq (Nat.not_lt.1 hmode)] at hsource
    exact (Bool.not_eq_false' _).mp hsource
  · show (s32 p (i + 13)).toNat ≤ 2147483647
    omega

/-! ## AMEND (R60 to R62) -/

/-- An accepted AMEND names a LIVE record and has settings that pass their checks (R60). -/
theorem amendCheck_ok {p : List Byte} {s : State} {settings : Settings} (h : amendCheck p s = .ok settings) :
    s.isLive (u16 p 0) = true ∧ settings = storedSettings p 2 ∧ firstRefusal (settingsChecks p 2) = none := by
  simp only [amendCheck, settingsAt_eq] at h
  split at h
  · cases h
  · cases hchecks : firstRefusal (settingsChecks p 2) with
    | some r => simp only [hchecks, reduceCtorEq] at h
    | none =>
      simp only [hchecks] at h
      split at h
      · next live => exact ⟨live, (Except.ok.inj h).symm, rfl⟩
      · cases h

theorem Record.Sound.resettled {r : Record} (h : r.Sound) (live : r.state = .live) {settings : Settings} (hs : settings.InRange) :
    ({ r with settings := settings } : Record).banded.Sound :=
  { h with
    free := fun hfree => SlotState.noConfusion (live.symm.trans hfree)
    band := rfl
    alert := rfl
    format := hs.format
    display := hs.display
    limits := hs.limits
    filter := hs.filter }

namespace State.FieldsSound

variable {s : State} (h : s.FieldsSound)
include h

theorem amendApply {k : Nat} (live : s.isLive k = true) {settings : Settings} (hs : settings.InRange) (hagu : s.agu.InRange) :
    s.KeepsFields (amendApply k settings s) := by
  have hlive := (s.isLive_iff k).1 live
  have evaluated := h.changes_one (s.updSlot_evaluateBand_changes k (fun r => { r with settings := settings })) live rfl rfl rfl
    (Record.Sound.evaluated ((h.records k).resettled hlive hs) hlive hagu.2)
  exact evaluated.trans (evaluated.sound.becomeDue (State.not_free_of_live ((evaluated.same.isLive k).trans live)))

/-! ## REFER, EXTREMES_CLEAR and STALE (R83 to R85) -/

theorem refer (instrument : Nat) {reference : Option Int} (hreference : inValueRange reference) (hagu : s.agu.InRange) :
    s.KeepsFields (((s.mirrors instrument .net).foldl (State.referSlot reference) s).joinGroup (s.mirrors instrument .net)) := by
  have referred := h.foldl_mirrors (f := State.referSlot reference) (g := fun agu r => (r.referred reference).evaluated agu.alertFrames)
    instrument .net (fun t k => t.updSlot_evaluateBand_changes k _) (fun _ r => r.referred_views reference)
    (fun _ _ _ hshared => Record.referred_shared_congr hshared reference) fun r hr live hkind =>
      Record.Sound.evaluated (hr.referred live hkind hreference)
        ((Record.key_eq_iff.1 (r.referred_views reference).1).1.trans live) hagu.2
  exact referred.1.joinGroup fun k hk => (h.chains.mem_mirrors.1 hk).1

theorem restart {kind : Kind} (instrument : Nat) (hkind : kind = .high ∨ kind = .low) {v : Option Int} (hv : inValueRange v)
    (hagu : s.agu.InRange) : s.KeepsFields ((s.mirrors instrument kind).foldl (State.restartSlot v) s)
      ∧ ((s.mirrors instrument kind).foldl (State.restartSlot v) s).agu = s.agu :=
  h.foldl_mirrors (f := State.restartSlot v) (g := fun agu r => (r.restarted v).evaluated agu.alertFrames) instrument kind
    (fun t k => t.updSlot_evaluateBand_changes k _) (fun _ r => r.restarted_views v)
    (fun _ _ _ hshared => Record.restarted_shared_congr hshared v) fun r hr live hk =>
      Record.Sound.evaluated (hr.restarted live (hk ▸ hkind) hv) ((Record.key_eq_iff.1 (r.restarted_views v).1).1.trans live)
        hagu.2

theorem restartValue_range (instrument : Nat) : inValueRange (s.restartValue instrument) := by
  unfold State.restartValue
  split
  · exact (h.records _).values.1
  · exact inValueRange_none

theorem extremesClear (instrument : Nat) {v : Option Int} (hv : inValueRange v) (hagu : s.agu.InRange) :
    s.KeepsFields (((s.mirrors instrument .high ++ s.mirrors instrument .low).foldl (State.restartSlot v) s).joinGroup
      (s.mirrors instrument .high ++ s.mirrors instrument .low)) := by
  obtain ⟨highs, hhighs⟩ := h.restart instrument (.inl rfl) hv hagu
  have lows := (highs.sound.restart instrument (.inr rfl) hv (hhighs.symm ▸ hagu)).1
  rw [highs.same.mirrors] at lows
  rw [List.foldl_append]
  refine (highs.trans lows).joinGroup fun k hk => ?_
  rcases List.mem_append.1 hk with hk | hk
  · exact (h.chains.mem_mirrors.1 hk).1
  · exact (h.chains.mem_mirrors.1 hk).1

theorem stale (instrument : Nat) :
    s.KeepsFields (((s.instrumentRecords instrument).foldl State.markStale s).joinGroup (s.instrumentRecords instrument)) := by
  have marked : s.KeepsFields ((s.instrumentRecords instrument).foldl State.markStale s) := by
    rw [State.instrumentRecords, List.foldl_flatMap]
    refine List.foldlRecOn (motive := s.KeepsFields) _ _ h.keeps_self fun t kept kind _ => kept.trans ?_
    rw [← kept.same.mirrors]
    refine (kept.sound.foldl_mirrors (f := State.markStale) (g := fun _ r => { r with stale := true }) instrument kind
      (fun u k => u.updSlot_changes k _) (fun _ _ => ⟨rfl, rfl, rfl⟩) (fun _ r x hshared => ?_)
      fun r hr live _ => hr.setStale live true).1
    obtain ⟨hcurrent, hprevious, hdirection, _, hsuspect, hreference, hlast⟩ := Record.shared_eq_iff.1 hshared
    exact Record.shared_eq_iff.2 ⟨hcurrent, hprevious, hdirection, rfl, hsuspect, hreference, hlast⟩
  refine marked.joinGroup fun k hk => ?_
  obtain ⟨kind, _, hk⟩ := List.mem_flatMap.1 hk
  exact (h.chains.mem_mirrors.1 hk).1

/-! ## Freezing, thawing and moving (chapter 6) -/

theorem defer {k : Nat} (live : s.isLive k = true) : s.KeepsFields (s.defer k) := by
  have flagged : s.KeepsFields (s.updSlot k (fun r => { r with queued := false, due := true })) :=
    h.updSlot rfl rfl rfl { h.records k with free := fun hfree => absurd hfree (State.not_free_of_live live) }
  exact flagged.trans (flagged.sound.of_same rfl (.refl _))

theorem resume {k : Nat} (live : s.isLive k = true) : s.KeepsFields (s.resume k) := by
  have flagged : s.KeepsFields (s.updSlot k (fun r => { r with due := false })) :=
    h.updSlot rfl rfl rfl { h.records k with free := fun hfree => absurd hfree (State.not_free_of_live live) }
  exact flagged.trans (flagged.sound.enqueue (State.not_free_of_live ((flagged.same.isLive k).trans live)))

theorem setPanel (p : Nat) (e : Option Panel) : s.KeepsFields (s.setPanel p e) := h.of_same rfl (.refl _)

theorem claimAll (k : Nat) (cells : List Nat) : s.KeepsFields (s.claimAll k cells) := by
  rw [(State.claimAll_spec s k cells).2]
  exact h.of_same rfl (.refl _)

theorem reclaim {k : Nat} (live : s.isLive k = true) : s.KeepsFields (s.reclaim k) := by
  unfold State.reclaim
  split
  · exact h.keeps_self
  · next e _ =>
    have anchored : s.KeepsFields
        (s.updSlot k (fun r => { r with page := e.page, row := e.row + r.rowOffset, col := e.col + r.colOffset })) :=
      h.updSlot rfl rfl rfl { h.records k with free := fun hfree => absurd hfree (State.not_free_of_live live) }
    have claimed (cells : List Nat) := anchored.trans (anchored.sound.claimAll k cells)
    exact (claimed _).trans ((claimed _).sound.becomeDue (State.not_free_of_live (((claimed _).same.isLive k).trans live)))

theorem moveNext (m : Message) (p cleared : Nat) {records : List Nat} (live : ∀ k ∈ records, s.isLive k = true) :
    s.KeepsFields (moveNext m p cleared records s) := by
  induction records generalizing s with
  | nil => exact h.of_same rfl (.refl _)
  | cons k rest ih =>
    obtain ⟨hk, hrest⟩ := List.forall_mem_cons.1 live
    unfold Machine.moveNext
    split
    · have reclaimed := h.reclaim hk
      exact reclaimed.trans (ih reclaimed.sound fun j hj => (reclaimed.same.isLive j).trans (hrest j hj))
    · exact h.of_same rfl (.refl _)

end State.FieldsSound

/-- The records of a panel are LIVE slots of the 1024 (R115). -/
theorem State.mem_panelRecords {s : State} {p k : Nat} (h : k ∈ s.panelRecords p) : k < 1024 ∧ s.isLive k = true := by
  simp only [State.panelRecords, List.mem_filter, Bool.and_eq_true, allSlots, List.mem_range] at h
  exact ⟨h.1, h.2.1⟩

namespace State.FieldsSound

variable {s : State} (h : s.FieldsSound)
include h

/-- A fold over LIVE records after a change of panel. -/
theorem foldl_panelRecords (p : Nat) (e : Option Panel) {f : State → Nat → State}
    (step : ∀ {t : State} {k}, t.FieldsSound → t.isLive k = true → t.KeepsFields (f t k)) (keep : Nat → Bool) :
    s.KeepsFields (((s.panelRecords p).filter keep).foldl f (s.setPanel p e)) := by
  have opened := h.setPanel p e
  refine opened.trans (opened.sound.foldl _ fun t k kept hk => step kept.sound ?_)
  rw [kept.same.isLive, opened.same.isLive]
  exact (State.mem_panelRecords (List.mem_filter.1 hk).1).2

theorem panelFreeze (p : Nat) (e : Panel) : s.KeepsFields (panelFreeze p e s) := by
  unfold Machine.panelFreeze
  split
  · exact h.keeps_self
  · exact h.foldl_panelRecords p _ (f := State.defer) (fun ht live => ht.defer live) _

theorem panelThaw (p : Nat) (e : Panel) : s.KeepsFields (panelThaw p e s) := by
  unfold Machine.panelThaw
  split
  · exact h.foldl_panelRecords p _ (f := State.resume) (fun ht live => ht.resume live) _
  · exact h.keeps_self

theorem panelMove (m : Message) (p : Nat) (e : Panel) (page row col : Nat) :
    s.KeepsFields (panelMove m p e page row col s) := by
  unfold Machine.panelMove
  have opened := h.setPanel p (some { e with page := page, row := row, col := col })
  exact opened.trans (opened.sound.moveNext m p _ fun k hk =>
    (opened.same.isLive k).trans (State.mem_panelRecords hk).2)

/-! ## Schemes (R136, R137) -/

theorem setScheme (bank : Bank) (condition index : Nat) : s.KeepsFields (s.setScheme bank condition index) := by
  cases bank <;> exact h.of_same rfl (.refl _)

end State.FieldsSound

/-! ## The Painter (chapter 8) -/

/-- A formed mask lies in the span, and is empty when no highlight runs (R132). -/
theorem formedMask_sound (sn : Snapshot) (string : List Byte) (overflow : Bool) :
    (∀ i ∈ formedMask sn string overflow, i < sn.width) ∧ (sn.highlight = .off → formedMask sn string overflow = []) := by
  have whole (w : Nat) : ∀ i ∈ wholeMask w, i < w := fun _ => List.mem_range.1
  unfold formedMask
  split
  · exact ⟨nofun, fun _ => rfl⟩
  · next hrunning =>
    refine ⟨?_, fun hoff => absurd (.inl hoff) hrunning⟩
    split
    · unfold digitsMask
      split
      · exact whole _
      · split
        · exact whole _
        · exact fun i hi => List.mem_range.1 (List.mem_filter.1 hi).1
    · exact whole _

/-- A running highlight aged, or ended at age 0 (R165). -/
theorem Record.Sound.aged_by {r : Record} (h : r.Sound) (n : Nat) : (r.aged n).Sound := by
  have notFree (hage : r.age ≠ 0) : r.state ≠ .free := fun hfree => hage (by rw [h.free hfree]; rfl)
  unfold Record.aged
  split
  · exact h
  · next hage =>
    split
    · exact { h with
        free := fun hfree => absurd hfree (notFree hage)
        age := ⟨Nat.zero_le _, fun _ => rfl, fun _ => rfl⟩
        mask := ⟨nofun, fun _ => rfl⟩
        aged := fun _ => rfl }
    · next hmore =>
      have hoff : r.highlight ≠ .off := mt h.age.2.1 hage
      exact { h with
        free := fun hfree => absurd hfree (notFree hage)
        age := ⟨(Nat.sub_le _ _).trans h.age.1, fun hoff' => absurd hoff' hoff, fun hzero => absurd hzero (Nat.sub_ne_zero_of_lt
          (Nat.lt_of_not_le hmore))⟩
        aged := fun hnot => absurd (h.aged hnot) hage }

theorem Record.aged_views (r : Record) (n : Nat) : (r.aged n).key = r.key ∧ (r.aged n).shared = r.shared
    ∧ (r.aged n).guard = r.guard := by
  unfold Record.aged
  split
  · exact ⟨rfl, rfl, rfl⟩
  · split <;> exact ⟨rfl, rfl, rfl⟩

namespace State.FieldsSound

variable {s : State} (h : s.FieldsSound)
include h

/-- The flash mask and the new-value flag of a record that is not FREE set (R132, R145). -/
theorem setMask {k : Nat} (hstate : (s.slot k).state ≠ .free) {mask : List Nat}
    (hmask : (∀ i ∈ mask, i < (s.slot k).width) ∧ ((s.slot k).highlight = .off → mask = [])) :
    s.KeepsFields (s.updSlot k (fun r => { r with mask := mask, newValue := false })) :=
  h.updSlot rfl rfl rfl { h.records k with free := fun hfree => absurd hfree hstate, mask := hmask }

theorem takeLive {k : Nat} (hstate : (s.slot k).state ≠ .free) : s.KeepsFields (s.takeLive k) := by
  simp only [State.takeLive]
  split
  · have masked := h.setMask hstate (formedMask_sound (s.slot k).snapshot
      (formatValue (s.slot k).current (s.slot k).settings.format (s.slot k).width).1
      (formatValue (s.slot k).current (s.slot k).settings.format (s.slot k).width).2)
    exact masked.trans (masked.sound.of_same rfl (.refl _))
  · exact h.of_same rfl (.refl _)

theorem paintEnded {k : Nat} (hstate : (s.slot k).state ≠ .free) {string : List Byte}
    (hstring : string.length = (s.slot k).width) : s.KeepsFields (s.paintEnded k string) := by
  have painted : s.KeepsFields (s.updSlot k (fun r => { r with image := some string })) :=
    h.updSlot rfl rfl rfl { h.records k with
      free := fun hfree => absurd hfree hstate
      image := fun _ hi => Option.some.inj hi ▸ hstring }
  unfold State.paintEnded
  have idle := painted.trans (painted.sound.of_same
    (t := { s.updSlot k (fun r => { r with image := some string }) with ptr := { s.ptr with painter := .idle } }) rfl (.refl _))
  exact idle.trans (idle.sound.of_linkOnly (State.jobEnded_linkOnly _ k))

/-- A grant that writes a cell, and at most releases its claim. -/
theorem vacate (k : Nat) (w : CellWrite) (q : Requester) : s.KeepsFields ((s.vacate k w).setMark q) := by
  unfold State.vacate
  split <;> exact h.of_same rfl (.refl _)

theorem clearWrite (k : Nat) (w : CellWrite) (q : Requester) : s.KeepsFields ((s.clearWrite k w).setMark q) := by
  unfold State.clearWrite
  split <;> exact h.of_same rfl (.refl _)

theorem paintWrite (k : Nat) (w : CellWrite) (q : Requester) : s.KeepsFields ((s.paintWrite k w).setMark q) := by
  unfold State.paintWrite
  split <;> exact h.of_same rfl (.refl _)

theorem textWrite (w : CellWrite) (q : Requester) : s.KeepsFields ((s.textWrite w).setMark q) := by
  unfold State.textWrite
  split <;> exact h.of_same rfl (.refl _)

/-! ## The sweep (R164, R165) -/

theorem ageAll : s.KeepsFields s.ageAll := by
  unfold State.ageAll
  generalize allSlots.filter (fun k => 0 < (s.slot k).age) = running
  have aged : s.KeepsFields (running.foldl (fun t k => t.updSlot k (fun r => r.aged s.agu.owed)) s) :=
    h.foldl running fun t k kept _ => by
      obtain ⟨hkey, hshared, hguard⟩ := Record.aged_views (t.slot k) s.agu.owed
      exact kept.sound.updSlot hkey hshared hguard ((kept.sound.records k).aged_by s.agu.owed)
  exact aged.trans (aged.sound.of_same rfl (.refl _))

theorem sweep (n : Nat) : s.KeepsFields (s.ageAll.joinGroup (s.sweepEnds n)) := by
  have aged := h.ageAll
  refine aged.trans (aged.sound.joinGroup fun k hk hfree => ?_)
  rw [aged.same.state] at hfree
  simp only [State.sweepEnds, List.mem_filter, Bool.and_eq_true, decide_eq_true_eq, (h.records k).free hfree] at hk
  exact absurd hk.2.1 (Nat.lt_irrefl 0)

end State.FieldsSound

end Sys2Proof.Machine
end

section
/-!
PROOFS, the commands and events that move no slot from state to state, taken together.
-/

namespace Sys2Proof.Machine

/-- The commands and events at which Table 2-1 moves slots, and power-on reset. -/
def Instr.movesSlots : Instr → Bool
  | .bind | .retire | .panelClose | .painterTake | .clearWriteGrant | .powerOnReset => true
  | _ => false

namespace State.FieldsSound

variable {s : State} (h : s.FieldsSound)
include h

theorem startWriting (m : Message) (ws : List CellWrite) : (startWriting m ws s).Leads s.KeepsFields := by
  cases ws with
  | nil => exact h.keeps_self
  | cons w ws => exact h.of_same rfl (.refl _)

/-- The body of a command that moves no slot keeps the fields. -/
theorem body (hagu : s.agu.InRange) {c : Command} (hc : Instr.movesSlots c.instr = false) (m : Message) :
    (c.body m s).Leads s.KeepsFields := by
  have unmoved : s.KeepsFields s := h.keeps_self
  cases c with
  | bind | retire | panelClose => exact Bool.noConfusion hc
  | amend =>
    simp only [Command.body, amendBody]
    cases hcheck : amendCheck m.params s with
    | error r => trivial
    | ok settings =>
      obtain ⟨live, rfl, passes⟩ := amendCheck_ok hcheck
      exact h.amendApply live (storedSettings_inRange passes) hagu
  | lookup =>
    refine .check fun _ => ?_
    split
    · trivial
    · split
      · trivial
      · exact unmoved
  | probe =>
    refine .check fun _ => ?_
    split <;> exact unmoved
  | tick =>
    refine .check fun _ => ?_
    split
    · trivial
    · next kind _ =>
      exact .check fun htick => (TickAcc.Keeps.evaluateTick (a := ⟨s, [], 0⟩) h hagu _
        (Bool.not_not_eq.1 (by simpa using htick)) (s32_range _ _).2).joinGroup
  | qtick =>
    refine .check fun _ => .check fun _ => .check fun hcount => ?_
    exact (TickAcc.Keeps.evaluateTicks (a := ⟨s, [], 0⟩) _ _ (fun x hx => mem_qtickValues hx hcount) h hagu []).joinGroup
  | refer =>
    refine .check fun _ => .check fun _ => h.refer _ ?_ hagu
    obtain ⟨_, hle⟩ := s32_range m.params 4
    exact inValueRange_ite (inValueRange_some ⟨by omega, by omega⟩) inValueRange_none
  | extremesClear => exact .check fun _ => h.extremesClear _ (h.restartValue_range _) hagu
  | stale => exact .check fun _ => h.stale _
  | alerts => exact .check fun _ => h.of_same rfl (List.drop_sublist _ _)
  | panelOpen =>
    refine .check fun _ => .check fun _ => .check fun _ => .check fun _ => ?_
    split
    · trivial
    · exact .check fun _ => .check fun _ => h.setPanel _ _
  | panelFreeze =>
    refine .check fun _ => ?_
    split
    · trivial
    · exact h.panelFreeze _ _
  | panelThaw =>
    refine .check fun _ => ?_
    split
    · trivial
    · exact h.panelThaw _ _
  | panelMove =>
    simp only [Command.body, panelMoveBody]
    refine .check fun _ => .check fun _ => ?_
    split
    · trivial
    · generalize (s.panelRecords (u8 m.params 0)).any _ = collides
      exact .check fun _ => .check fun _ => .check fun _ => h.panelMove m _ _ _ _ _
  | attrSet =>
    exact .check fun _ => .check fun _ => .check fun _ => .check fun _ => h.of_same rfl (.refl _)
  | schemeSet =>
    simp only [Command.body, schemeSetBody]
    split
    · trivial
    · refine .check fun _ => .check fun _ => (h.setScheme _ _ _).joinGroup fun k hk => ?_
      simp only [State.bankRecords, List.mem_filter, Bool.and_eq_true] at hk
      exact hk.2.1
  | schemeSwap => exact (h.of_same (t := s.swapBanks) rfl (.refl _)).joinGroup fun k hk => (List.mem_filter.1 hk).2
  | text =>
    simp only [Command.body, textBody]
    split
    · trivial
    · exact .check fun _ => .check fun _ => h.startWriting m _
  | fill =>
    simp only [Command.body, fillBody]
    split
    · trivial
    · exact .check fun _ => .check fun _ => .check fun _ => h.startWriting m _
  | showPage => exact .check fun _ => h.of_same rfl (.refl _)
  | pattern => exact .check fun _ => h.of_same rfl (.refl _)
  | glyphLoad => exact .check fun _ => h.of_same rfl (.refl _)
  | status => exact h.of_same rfl (.refl _)
  | config => exact .check fun _ => h.of_same rfl (.refl _)
  | sync =>
    simp only [Command.body, syncBody]
    split
    · exact unmoved
    · exact h.of_same rfl (.refl _)

/-- A message command that moves no slot keeps the fields. -/
theorem command (hagu : s.agu.InRange) {c : Command} (hc : Instr.movesSlots c.instr = false) :
    Step.Leads s.KeepsFields (exec c.instr s) := by
  have taken (reply : Bool) : s.KeepsFields (s.taken reply) := h.of_same rfl (.refl _)
  rw [exec_instr]
  refine runCommand_keeps h.keeps_self taken (fun u code r data hu => ?_) fun m reply _ _ => ?_
  · exact hu.trans (hu.sound.of_linkOnly (State.endExecution_linkOnly u code r data))
  · exact ((taken reply).sound.body hagu hc m).mono fun _ => (taken reply).trans

/-! ## Grants, frames and the sweep -/

theorem execPaintWriteGrant (hpainting : ∀ k sn bank str ws, s.ptr.painter = .painting k sn bank str ws →
      (s.slot k).state ≠ .free ∧ ws ≠ [] ∧ str.length = (s.slot k).width) :
    Step.Leads s.KeepsFields (execPaintWriteGrant s) := by
  unfold Machine.execPaintWriteGrant
  split
  · next k sn bank string w ws hpainter =>
    obtain ⟨hstate, _, hstring⟩ := hpainting k sn bank string (w :: ws) hpainter
    split
    · have written := h.paintWrite k w .ptr
      have width : (((s.paintWrite k w).setMark .ptr).slot k).width = (s.slot k).width := by
        unfold State.paintWrite
        split <;> rfl
      dsimp only
      split
      · refine written.trans (written.sound.paintEnded ?_ (hstring.trans width.symm))
        rwa [written.same.state]
      · exact written.trans (written.sound.of_same rfl (.refl _))
    · exact h.keeps_self
  · exact h.keeps_self

theorem execTextWriteGrant : Step.Leads s.KeepsFields (execTextWriteGrant s) := by
  unfold Machine.execTextWriteGrant
  split
  · next m w ws _ =>
    split
    · have written := h.textWrite w .mdc
      dsimp only
      split <;> exact written.trans (written.sound.of_same rfl (.refl _))
    · exact h.keeps_self
  · exact h.keeps_self

theorem execVacateWriteGrant (claims : s.ClaimsSound) : Step.Leads s.KeepsFields (execVacateWriteGrant s) := by
  unfold Machine.execVacateWriteGrant
  split
  · next m p cleared k w ws rest hmdc =>
    obtain ⟨_, _, _, _, _, hrecords⟩ := claims.moving m p cleared k (w :: ws) rest hmdc
    have live (j : Nat) (hj : j ∈ k :: rest) : s.isLive j = true := (hrecords j hj).1
    split
    · have written := h.vacate k w .mdc
      dsimp only
      split
      · have reclaimed := written.trans (written.sound.reclaim ((written.same.isLive k).trans (live k (List.mem_cons_self ..))))
        exact reclaimed.trans (reclaimed.sound.moveNext m p cleared fun j hj =>
          (reclaimed.same.isLive j).trans (live j (List.mem_cons_of_mem _ hj)))
      · exact written.trans (written.sound.of_same rfl (.refl _))
    · exact h.keeps_self
  · exact h.keeps_self

theorem execFrameStart : Step.Leads s.KeepsFields (execFrameStart s) := by
  unfold Machine.execFrameStart
  split
  · exact h.keeps_self
  · unfold State.oweSweep
    split <;> exact h.of_same rfl (.refl _)

theorem execRowRead : Step.Leads s.KeepsFields (execRowRead s) := by
  unfold Machine.execRowRead
  split
  · split
    · exact h.of_same rfl (.refl _)
    · exact h.keeps_self
  · exact h.keeps_self

theorem execSweep : Step.Leads s.KeepsFields (execSweep s) := by
  unfold Machine.execSweep
  split
  · exact h.sweep _
  · exact h.keeps_self

end State.FieldsSound

theorem State.Sound.agu_inRange {s : State} (h : s.Sound) : s.agu.InRange := ⟨h.bounded.flashFrames, h.bounded.alertFrames⟩

/-- What moves no slot keeps the fields of a sound state. -/
theorem State.Sound.exec_keepsFields {s : State} (h : s.Sound) {i : Instr} (hi : Instr.movesSlots i = false) :
    Step.Leads s.KeepsFields (exec i s) := by
  have link (hlink : linkEvent i = true) : Step.Leads s.KeepsFields (exec i s) :=
    (exec_linkOnly hlink s).mono fun _ => h.fields.of_linkOnly
  have command {c : Command} (hc : c.instr = i) : Step.Leads s.KeepsFields (exec i s) :=
    hc ▸ h.fields.command h.agu_inRange (hc ▸ hi)
  cases i with
  | bind | retire | panelClose | painterTake | clearWriteGrant | powerOnReset => exact Bool.noConfusion hi
  | amend => exact command (c := .amend) rfl
  | lookup => exact command (c := .lookup) rfl
  | probe => exact command (c := .probe) rfl
  | tick => exact command (c := .tick) rfl
  | qtick => exact command (c := .qtick) rfl
  | refer => exact command (c := .refer) rfl
  | extremesClear => exact command (c := .extremesClear) rfl
  | stale => exact command (c := .stale) rfl
  | alerts => exact command (c := .alerts) rfl
  | panelOpen => exact command (c := .panelOpen) rfl
  | panelFreeze => exact command (c := .panelFreeze) rfl
  | panelThaw => exact command (c := .panelThaw) rfl
  | panelMove => exact command (c := .panelMove) rfl
  | attrSet => exact command (c := .attrSet) rfl
  | schemeSet => exact command (c := .schemeSet) rfl
  | schemeSwap => exact command (c := .schemeSwap) rfl
  | text => exact command (c := .text) rfl
  | fill => exact command (c := .fill) rfl
  | showPage => exact command (c := .showPage) rfl
  | pattern => exact command (c := .pattern) rfl
  | glyphLoad => exact command (c := .glyphLoad) rfl
  | status => exact command (c := .status) rfl
  | config => exact command (c := .config) rfl
  | sync => exact command (c := .sync) rfl
  | vacateWriteGrant => exact h.fields.execVacateWriteGrant h.claims
  | textWriteGrant => exact h.fields.execTextWriteGrant
  | paintWriteGrant => exact h.fields.execPaintWriteGrant h.queue.painting
  | frameStart => exact h.fields.execFrameStart
  | rowRead => exact h.fields.execRowRead
  | sweep => exact h.fields.execSweep
  | _ => exact link rfl

end Sys2Proof.Machine
end

section
/-!
PROOFS, the commands and events that move slots from state to state: the end of a clear job, retirement and BIND.
-/

namespace Sys2Proof.Machine

/-! ## The counts (R22) -/

/-- A slot that changes state leaves the count of its old state and enters that of its new one. -/
theorem State.countOf_moved {s t : State} {k : Nat} {a b : SlotState} (hk : k < 1024)
    (others : ∀ j, j ≠ k → (t.slot j).state = (s.slot j).state) (hs : (s.slot k).state = a) (ht : (t.slot k).state = b)
    (state : SlotState) :
    t.countOf state + (if a = state then 1 else 0) = s.countOf state + (if b = state then 1 else 0) := by
  subst hs ht
  have split (u : State) : u.countOf state = (allSlots.erase k).countP (fun j => (u.slot j).state == state)
      + if (u.slot k).state = state then 1 else 0 := by
    rw [State.countOf, ← List.countP_eq_length_filter, (List.perm_cons_erase (l := allSlots) (List.mem_range.2 hk)).countP_eq,
      List.countP_cons]
    simp
  have rest : (allSlots.erase k).countP (fun j => (t.slot j).state == state)
      = (allSlots.erase k).countP (fun j => (s.slot j).state == state) :=
    List.countP_congr fun j hj => by
      rw [others j ((List.Nodup.mem_erase_iff List.nodup_range).1 hj).1]
  rw [split s, split t, rest]
  omega

/-- The three states share out the slots. -/
theorem length_filter_states (state : Nat → SlotState) (l : List Nat) :
    (l.filter (fun k => state k == .live)).length + (l.filter (fun k => state k == .retiring)).length
      + (l.filter (fun k => state k == .free)).length = l.length := by
  induction l with
  | nil => rfl
  | cons k rest ih =>
    cases hstate : state k <;> simp [hstate] <;> omega

theorem State.Counted.total {s : State} (h : s.Counted) :
    s.ftb.liveCount + s.ftb.retiringCount + s.ftb.freeCount = 1024 := by
  rw [h.live, h.retiring, h.free]
  exact (length_filter_states (fun k => (s.slot k).state) allSlots).trans List.length_range

/-- The counts stay those of the slots when they follow the one slot that moved. -/
theorem State.Counted.moved {s t : State} {a b : SlotState} (h : s.Counted)
    (moved : ∀ c, t.countOf c + (if a = c then 1 else 0) = s.countOf c + (if b = c then 1 else 0))
    (live : t.ftb.liveCount = s.ftb.liveCount + (if b = .live then 1 else 0) - (if a = .live then 1 else 0))
    (retiring : t.ftb.retiringCount = s.ftb.retiringCount + (if b = .retiring then 1 else 0) - (if a = .retiring then 1 else 0))
    (free : t.ftb.freeCount = s.ftb.freeCount + (if b = .free then 1 else 0) - (if a = .free then 1 else 0)) : t.Counted where
  live := by rw [live, h.live, ← moved, Nat.add_sub_cancel]
  retiring := by rw [retiring, h.retiring, ← moved, Nat.add_sub_cancel]
  free := by rw [free, h.free, ← moved, Nat.add_sub_cancel]

/-! ## Slots that move -/

/-- The move of Table 2-1 that a command or an event makes. -/
def Instr.slotMove : Instr → Option (SlotState × SlotState)
  | .bind => some (.free, .live)
  | .retire | .panelClose => some (.live, .retiring)
  | .clearWriteGrant | .painterTake => some (.retiring, .free)
  | _ => none

/-- `t` is sound in its fields, and every slot is in the state it has in `s` or has made the move. -/
structure State.MovesSlots (s : State) (move : Option (SlotState × SlotState)) (t : State) : Prop where
  sound : t.FieldsSound
  state : ∀ k, (t.slot k).state = (s.slot k).state ∨ move = some ((s.slot k).state, (t.slot k).state)

section
variable {s t u : State} {move : Option (SlotState × SlotState)}

theorem State.KeepsFields.movesSlots (kept : s.KeepsFields t) (move : Option (SlotState × SlotState)) : s.MovesSlots move t :=
  ⟨kept.sound, fun k => .inl (kept.same.state k)⟩

theorem State.MovesSlots.trans (hst : s.MovesSlots move t) (htu : t.MovesSlots move u) : s.MovesSlots move u where
  sound := htu.sound
  state k := by
    rcases hst.state k with same | moved
    · exact same ▸ htu.state k
    · rcases htu.state k with same | again
      · exact .inr (same.symm ▸ moved)
      · have stays := Prod.ext_iff.1 (Option.some.inj (moved.symm.trans again))
        exact .inr (again.trans (by rw [← (show (s.slot k).state = (t.slot k).state from stays.1)]))

theorem State.MovesSlots.keeps (hst : s.MovesSlots move t) (htu : t.KeepsFields u) : s.MovesSlots move u :=
  hst.trans (htu.movesSlots move)

end

/-! ## The end of a clear job (R151) -/

namespace State.FieldsSound

variable {s : State} (h : s.FieldsSound)
include h

/-- A RETIRING slot given back: the empty record in it, and the counts moved. -/
theorem freed {t : State} {k : Nat} (hk : k < 1024) (hstate : (s.slot k).state = .retiring)
    (slot : ∀ j, t.slot j = if j = k then Record.empty else s.slot j)
    (chains : t.ftb.chains = s.ftb.chains) (live : t.ftb.liveCount = s.ftb.liveCount)
    (retiring : t.ftb.retiringCount = s.ftb.retiringCount - 1) (free : t.ftb.freeCount = s.ftb.freeCount + 1)
    (alerts : t.alerts = s.alerts) : s.MovesSlots (some (.retiring, .free)) t := by
  have hempty : t.slot k = Record.empty := by rw [slot, if_pos rfl]
  have unmoved {j : Nat} (hj : j ≠ k) : t.slot j = s.slot j := by rw [slot, if_neg hj]
  have dead : s.isLive k = false := by rw [State.isLive, hstate]; rfl
  have isLive (j : Nat) : t.isLive j = s.isLive j := by
    by_cases hj : j = k
    · rw [hj, dead, State.isLive, hempty]
      rfl
    · rw [State.isLive, unmoved hj, State.isLive]
  have of_live {j : Nat} (hj : s.isLive j = true) : t.slot j = s.slot j :=
    unmoved fun heq => Bool.noConfusion (dead.symm.trans (heq ▸ hj))
  have chain (b : Nat) : t.chain b = s.chain b := State.chain_of_chains chains b
  have mirrors (instrument : Nat) (kind : Kind) : t.mirrors instrument kind = s.mirrors instrument kind := by
    unfold State.mirrors
    rw [chain]
    refine List.filter_congr fun j hj => ?_
    rw [isLive, of_live ((h.chains.members _ j).1 hj).1]
  have lead (instrument : Nat) (kind : Kind) : t.lead instrument kind = s.lead instrument kind := by
    rw [State.lead_eq_head?, mirrors, State.lead_eq_head?]
  have of_lead {instrument : Nat} {kind : Kind} {l : Nat} (hl : s.lead instrument kind = some l) : t.slot l = s.slot l :=
    of_live (h.chains.mem_mirrors.1 (List.mem_of_head? hl)).1
  refine ⟨⟨⟨fun b => chain b ▸ h.chains.nodup b, fun b j => ?_, fun i κ => mirrors i κ ▸ h.chains.four i κ⟩, ?_,
    ⟨fun i κ l hl => ?_, fun i κ l j hl hj => ?_, fun j hj => ?_, fun j hj => ?_⟩, fun j => ?_,
    ⟨alerts ▸ h.alerts.nodup, fun e he => (isLive _).trans (h.alerts.live e (alerts ▸ he))⟩, ?_⟩, fun j => ?_⟩
  · rw [chain, isLive, h.chains.members]
    exact and_congr_right fun hj => by rw [of_live hj]
  · rw [State.mirrorsAgree_iff]
    intro i j hi hj
    rw [isLive] at hi hj
    rw [of_live hi, of_live hj]
    exact s.mirrorsAgree_iff.1 h.mirrors i j hi hj
  · rw [lead] at hl
    rw [of_lead hl]
    exact h.guarded.lead i κ l hl
  · rw [lead] at hl
    rw [mirrors] at hj
    rw [of_lead hl, of_live (h.chains.mem_mirrors.1 hj).1]
    exact h.guarded.suspects i κ l j hl hj
  · by_cases hjk : j = k
    · rw [hjk, hempty]
      exact ⟨rfl, rfl⟩
    · rw [lead, unmoved hjk] at hj
      rw [unmoved hjk]
      exact h.guarded.others j hj
  · by_cases hjk : j = k
    · rw [hjk, hempty]
      exact ⟨rfl, rfl⟩
    · rw [unmoved hjk] at hj ⊢
      exact h.guarded.derived j hj
  · rw [slot]
    split
    · exact Record.empty_sound
    · exact h.records j
  · have moved := State.countOf_moved (t := t) hk (fun j hj => by rw [unmoved hj]) hstate (congrArg Record.state hempty)
    exact h.counted.moved moved live retiring free
  · by_cases hj : j = k
    · exact .inr (by rw [hj, hstate, hempty]; rfl)
    · exact .inl (by rw [unmoved hj])

theorem clearEnded {k : Nat} (hk : k < 1024) (hstate : (s.slot k).state = .retiring) :
    s.MovesSlots (some (.retiring, .free)) (s.clearEnded k) := by
  unfold State.clearEnded
  have freed := h.freed (t := { s.setSlot k Record.empty with
      ftb := { (s.setSlot k Record.empty).ftb with
        retiringCount := s.ftb.retiringCount - 1, freeCount := s.ftb.freeCount + 1 }
      ptr := { s.ptr with painter := .idle } }) hk hstate (s.slot_setSlot k Record.empty) rfl rfl rfl rfl rfl
  exact freed.keeps (freed.sound.of_linkOnly (State.jobEnded_linkOnly _ k))

theorem takeClear {k : Nat} (hk : k < 1024) (hstate : (s.slot k).state = .retiring) :
    s.MovesSlots (some (.retiring, .free)) (s.takeClear k) := by
  unfold State.takeClear
  split
  · exact h.clearEnded hk hstate
  · refine State.KeepsFields.movesSlots ?_ _
    exact h.of_same rfl (.refl _)

end State.FieldsSound

/-! ## Retirement (R63, R41) -/

/-- A lead has an heir when its key has a second mirror. -/
theorem State.heir_iff (s : State) (k j : Nat) : s.heir k = some j ↔
    ∃ rest, s.mirrors (s.slot k).instrument (s.slot k).kind = k :: j :: rest := by
  rw [State.heir_eq_some_iff, State.leads, State.lead_eq_head?, beq_iff_eq]
  cases s.mirrors (s.slot k).instrument (s.slot k).kind with
  | nil => simp
  | cons lead others => cases others <;> simp

section
variable {s : State} (h : s.ChainsSound) (k : Nat)
include h

/-- Retirement leaves the key and the shared fields of every other slot. -/
theorem State.retire_views {j : Nat} (hj : j ≠ k) : ((s.retire k).slot j).key = (s.slot j).key
    ∧ ((s.retire k).slot j).shared = (s.slot j).shared := by
  rw [State.retire_slot h, if_neg hj]
  split <;> exact ⟨rfl, rfl⟩

theorem State.retire_suspect (j : Nat) : ((s.retire k).slot j).suspect = (s.slot j).suspect
    ∧ ((s.retire k).slot j).instrument = (s.slot j).instrument ∧ ((s.retire k).slot j).kind = (s.slot j).kind := by
  rw [State.retire_slot h]
  split
  · next hj => rw [hj]; exact ⟨rfl, rfl, rfl⟩
  · split <;> exact ⟨rfl, rfl, rfl⟩

theorem State.retire_isLive (j : Nat) : (s.retire k).isLive j = (s.isLive j && j != k) := by
  by_cases hj : j = k
  · rw [State.isLive, State.retire_slot h, if_pos hj, bne_eq_false_iff_eq.2 hj, Bool.and_false]
    rfl
  · rw [State.isLive, (Record.key_eq_iff.1 (State.retire_views h k hj).1).1, bne_iff_ne.2 hj, Bool.and_true]
    rfl

theorem State.retire_mirrors (instrument : Nat) (kind : Kind) :
    (s.retire k).mirrors instrument kind = (s.mirrors instrument kind).filter (· != k) := by
  unfold State.mirrors
  rw [State.retire_chain h, List.filter_filter, List.filter_filter]
  refine List.filter_congr fun j _ => ?_
  obtain ⟨_, hinstrument, hkind⟩ := State.retire_suspect h k j
  rw [State.retire_isLive h, hinstrument, hkind]
  cases s.isLive j <;> cases j != k <;> simp

/-- The mirrors of a key whose lead goes. -/
theorem State.retire_mirrors_of_lead {instrument : Nat} {kind : Kind} {others : List Nat}
    (hm : s.mirrors instrument kind = k :: others) : (s.retire k).mirrors instrument kind = others := by
  have nodup := h.mirrors_nodup instrument kind
  rw [hm] at nodup
  have absent := (List.nodup_cons.1 nodup).1
  rw [State.retire_mirrors h, hm, List.filter_cons_of_neg (by simp)]
  exact List.filter_eq_self.2 fun j hj => bne_iff_ne.2 fun heq => absent (heq ▸ hj)

/-- The lead of a key after a retirement holds the guard state that the lead before it held (R41). -/
theorem State.retire_lead {instrument : Nat} {kind : Kind} {j : Nat} (hj : (s.retire k).lead instrument kind = some j) :
    ∃ l, s.lead instrument kind = some l ∧ ((s.retire k).slot j).guard = (s.slot l).guard := by
  rw [State.lead_eq_head?] at hj ⊢
  cases hm : s.mirrors instrument kind with
  | nil => simp [State.retire_mirrors h, hm] at hj
  | cons lead others =>
    refine ⟨lead, rfl, ?_⟩
    have mem (i : Nat) (hi : i ∈ lead :: others) := h.mem_mirrors.1 (hm ▸ hi : i ∈ s.mirrors instrument kind)
    by_cases hlead : lead = k
    · subst hlead
      rw [State.retire_mirrors_of_lead h lead hm, List.head?_eq_some_iff] at hj
      obtain ⟨rest, rfl⟩ := hj
      obtain ⟨_, rfl, rfl⟩ := mem lead (List.mem_cons_self ..)
      have heir := (s.heir_iff lead j).2 ⟨rest, hm⟩
      rw [State.retire_slot h, if_neg (State.heir_ne h lead heir), if_pos heir]
      rfl
    · rw [State.retire_mirrors h, hm, List.filter_cons_of_pos (by simpa using hlead)] at hj
      obtain rfl : lead = j := Option.some.inj hj
      have stranger : s.heir k ≠ some lead := fun heir => by
        obtain ⟨rest, hk⟩ := (s.heir_iff k lead).1 heir
        obtain ⟨_, hi, hκ⟩ := h.mem_mirrors.1 (hk ▸ List.mem_cons_of_mem _ (List.mem_cons_self ..) : lead ∈ s.mirrors _ _)
        obtain ⟨_, hi', hκ'⟩ := mem lead (List.mem_cons_self ..)
        rw [← hi, ← hκ, hi', hκ', hm] at hk
        exact hlead (List.cons.inj hk).1
      rw [State.retire_slot h, if_neg hlead, if_neg stranger]

end

/-- The heir has the key of the record it inherits from. -/
theorem State.heir_mirrors {s : State} (h : s.ChainsSound) {k j : Nat} (heir : s.heir k = some j) :
    s.isLive j = true ∧ (s.slot j).instrument = (s.slot k).instrument ∧ (s.slot j).kind = (s.slot k).kind := by
  obtain ⟨rest, hm⟩ := (s.heir_iff k j).1 heir
  exact h.mem_mirrors.1 (hm ▸ List.mem_cons_of_mem _ (List.mem_cons_self ..))

theorem Record.Sound.inheriting {r x : Record} (hx : x.Sound) (live : x.state = .live) (hr : r.Sound) :
    (x.inheriting r).Sound := by
  obtain ⟨hcurrent, hprevious, hreference, hoperand, _⟩ := hx.values
  exact { hx with
    free := fun hfree => SlotState.noConfusion (live.symm.trans hfree)
    values := ⟨hcurrent, hprevious, hreference, hoperand, hr.values.2.2.2.2⟩ }

/-- The record that a retirement leaves (R63). -/
theorem Record.Sound.retired {r : Record} (h : r.Sound) (live : r.state = .live) (led queued : Bool) :
    ({ (r.unguarded led).withdrawn with queued := queued } : Record).Sound := by
  obtain ⟨hcurrent, hprevious, hreference, hoperand, hsuspect⟩ := h.values
  exact { h with
    free := nofun
    placed := fun _ => h.placed (by rw [live]; nofun)
    values := ⟨hcurrent, hprevious, hreference, hoperand, inValueRange_ite inValueRange_none hsuspect⟩
    age := ⟨Nat.zero_le _, fun _ => rfl, fun _ => rfl⟩
    mask := ⟨nofun, fun _ => rfl⟩
    aged := fun _ => rfl }

namespace State.FieldsSound

variable {s : State} (h : s.FieldsSound)
include h

theorem retire_chainsSound (k : Nat) : (s.retire k).ChainsSound where
  nodup b := by
    rw [State.retire_chain h.chains]
    exact (h.chains.nodup b).filter _
  members b j := by
    obtain ⟨_, hinstrument, hkind⟩ := State.retire_suspect h.chains k j
    rw [State.retire_chain h.chains, List.mem_filter, h.chains.members, State.retire_isLive h.chains, hinstrument, hkind,
      Bool.and_eq_true]
    exact and_right_comm
  four instrument kind := by
    rw [State.retire_mirrors h.chains]
    exact (List.length_filter_le _ _).trans (h.chains.four instrument kind)

theorem retire_mirrorsAgree (k : Nat) : (s.retire k).MirrorsAgree := by
  rw [State.mirrorsAgree_iff]
  intro i j hi hj hkey
  simp only [State.retire_isLive h.chains, Bool.and_eq_true, bne_iff_ne] at hi hj
  obtain ⟨keyi, sharedi⟩ := State.retire_views h.chains k hi.2
  obtain ⟨keyj, sharedj⟩ := State.retire_views h.chains k hj.2
  rw [sharedi, sharedj]
  exact s.mirrorsAgree_iff.1 h.mirrors i j hi.1 hj.1 (keyi ▸ keyj ▸ hkey)

theorem retire_guardSound (k : Nat) : (s.retire k).GuardSound where
  lead instrument kind j hj := by
    obtain ⟨l, hl, hguard⟩ := State.retire_lead h.chains k hj
    obtain ⟨hvalue, hcount⟩ := Record.guard_eq_iff.1 hguard
    rw [hvalue, hcount]
    exact h.guarded.lead instrument kind l hl
  suspects instrument kind l j hl hj := by
    obtain ⟨lead, hlead, hguard⟩ := State.retire_lead h.chains k hl
    rw [State.retire_mirrors h.chains] at hj
    rw [(Record.guard_eq_iff.1 hguard).1, (State.retire_suspect h.chains k j).1]
    exact h.guarded.suspects instrument kind lead j hlead (List.mem_filter.1 hj).1
  others j hj := by
    obtain ⟨_, hinstrument, hkind⟩ := State.retire_suspect h.chains k j
    rw [hinstrument, hkind, State.lead_eq_head?] at hj
    rw [State.retire_slot h.chains]
    split
    · next hjk =>
      cases hled : s.leads k with
      | true => exact ⟨rfl, rfl⟩
      | false =>
        refine h.guarded.others k fun hlead => ?_
        rw [State.leads, hlead, beq_self_eq_true] at hled
        cases hled
    · next hjk =>
      split
      · next heir =>
        obtain ⟨rest, hm⟩ := (s.heir_iff k j).1 heir
        obtain ⟨_, hi, hκ⟩ := State.heir_mirrors h.chains heir
        rw [hi, hκ, State.retire_mirrors_of_lead h.chains k hm] at hj
        exact absurd rfl hj
      · refine h.guarded.others j fun hlead => hj ?_
        rw [State.lead_eq_head?, List.head?_eq_some_iff] at hlead
        obtain ⟨rest, hm⟩ := hlead
        rw [State.retire_mirrors h.chains, hm, List.filter_cons_of_pos (by simpa using hjk)]
        rfl
  derived j hj := by
    obtain ⟨hsuspect, _, hkind⟩ := State.retire_suspect h.chains k j
    rw [hkind] at hj
    rw [hsuspect, State.retire_slot h.chains]
    split
    · next hjk =>
      subst hjk
      refine ⟨?_, (h.guarded.derived j hj).2⟩
      cases s.leads j with
      | true => rfl
      | false => exact (h.guarded.derived j hj).1
    · split
      · next heir =>
        exact ⟨(h.guarded.derived k ((State.heir_mirrors h.chains heir).2.2 ▸ hj)).1, (h.guarded.derived j hj).2⟩
      · exact h.guarded.derived j hj

theorem retire {k : Nat} (hk : k < 1024) (live : s.isLive k = true) : s.MovesSlots (some (.live, .retiring)) (s.retire k) := by
  have hlive := (s.isLive_iff k).1 live
  have frame := State.retire_frame h.chains k
  have gone : ((s.retire k).slot k).state = .retiring := by rw [State.retire_slot h.chains, if_pos rfl]; rfl
  have state {j : Nat} (hj : j ≠ k) : ((s.retire k).slot j).state = (s.slot j).state :=
    (Record.key_eq_iff.1 (State.retire_views h.chains k hj).1).1
  refine ⟨⟨h.retire_chainsSound k, h.retire_mirrorsAgree k, h.retire_guardSound k, fun j => ?_, ?_, ?_⟩, fun j => ?_⟩
  · rw [State.retire_slot h.chains]
    split
    · exact (h.records k).retired hlive _ _
    · split
      · next heir =>
        exact (h.records j).inheriting ((s.isLive_iff j).1 (State.heir_mirrors h.chains heir).1) (h.records k)
      · exact h.records j
  · have alerts : (s.retire k).alerts = s.alerts.filter (fun e => e.slot != k) := by rw [frame]
    refine ⟨?_, fun e he => ?_⟩
    · rw [alerts]
      exact h.alerts.nodup.sublist (List.filter_sublist.map _)
    · rw [alerts, List.mem_filter] at he
      rw [State.retire_isLive h.chains, h.alerts.live e he.1, he.2]
      rfl
  · exact h.counted.moved (State.countOf_moved hk (fun j hj => state hj) hlive gone) (by rw [frame]; rfl) (by rw [frame]; rfl)
      (by rw [frame]; rfl)
  · by_cases hj : j = k
    · rw [hj, gone, hlive]
      exact .inr rfl
    · exact .inl (state hj)

/-- PANEL_CLOSE retires the records of the panel one after the other (R115). -/
theorem panelClose (p : Nat) : s.MovesSlots (some (.live, .retiring)) (panelClose p s) := by
  have retired (l : List Nat) (hl : l.Nodup) {t : State} (ht : t.FieldsSound) (live : ∀ k ∈ l, k < 1024 ∧ t.isLive k = true) :
      t.MovesSlots (some (.live, .retiring)) (l.foldl State.retire t) := by
    induction l generalizing t with
    | nil => exact ht.keeps_self.movesSlots _
    | cons k rest ih =>
      obtain ⟨hk, hrest⟩ := List.nodup_cons.1 hl
      obtain ⟨⟨hbound, hlive⟩, others⟩ := List.forall_mem_cons.1 live
      have first := ht.retire hbound hlive
      refine first.trans (ih hrest first.sound fun j hj => ⟨(others j hj).1, ?_⟩)
      rw [State.retire_isLive ht.chains, (others j hj).2, Bool.true_and, bne_iff_ne]
      exact fun heq => hk (heq ▸ hj)
  have closed := retired (s.panelRecords p) (List.nodup_range.filter _) h fun k hk => State.mem_panelRecords hk
  exact closed.keeps (closed.sound.setPanel p none)

end State.FieldsSound

end Sys2Proof.Machine
end

section
/-!
PROOFS, BIND among the records and the Key Index (R54 to R58), and what every command and event does to the slots (O55, O57, O59).
-/

namespace Sys2Proof.Machine

/-! ## The new record -/

/-- The new record is sound when its first values are (R27, R29). -/
theorem Binding.Accepted.banded_sound {b : Binding} {p : List Byte} {s : State} (a : b.Accepted p s)
    {current previous reference operand : Option Int} (direction : Direction) (stale suspect queued due : Bool)
    (values : inValueRange current ∧ inValueRange previous ∧ inValueRange reference ∧ inValueRange operand)
    (size : b.kind = .size → (∀ v, current = some v → 0 ≤ v) ∧ (∀ v, previous = some v → 0 ≤ v))
    (operands : b.kind ≠ .net → reference = none ∧ operand = none)
    (net : b.kind = .net → current = netValue reference operand) :
    ({ ({ b.record with
          current := current, previous := previous, direction := direction, stale := stale, suspect := suspect
          reference := reference, lastOperand := operand } : Record).banded with queued := queued, due := due } : Record).Sound where
  free := nofun
  placed _ := ⟨a.code, a.panelOk, a.widthOk⟩
  values := ⟨values.1, values.2.1, values.2.2.1, values.2.2.2, nofun⟩
  size := size
  operands := operands
  net := net
  band := rfl
  alert := rfl
  format := (a.settings ▸ storedSettings_inRange a.settingsOk : b.settings.InRange).format
  display := (a.settings ▸ storedSettings_inRange a.settingsOk : b.settings.InRange).display
  limits := (a.settings ▸ storedSettings_inRange a.settingsOk : b.settings.InRange).limits
  filter := (a.settings ▸ storedSettings_inRange a.settingsOk : b.settings.InRange).filter
  age := ⟨Nat.zero_le _, fun _ => rfl, fun _ => rfl⟩
  mask := ⟨nofun, fun _ => rfl⟩
  aged _ := rfl
  image := nofun

namespace State.FieldsSound

variable {s : State} (h : s.FieldsSound)
include h

theorem lastOf_range {instrument : Nat} {last : Int × Bool} (hlast : s.lastOf instrument = some last) :
    -2147483647 ≤ last.1 ∧ last.1 ≤ 2147483647 := by
  obtain ⟨l, _, hl⟩ := Option.bind_eq_some_iff.1 hlast
  obtain ⟨v, hv, rfl⟩ := Option.map_eq_some_iff.1 hl
  exact (h.records l).values.1 v hv

/-- The new record, copied from its lead or seeded, is sound (R56 to R58). -/
theorem valued_sound {b : Binding} {p : List Byte} (a : b.Accepted p s) (queued due : Bool) :
    ({ b.valued s with queued := queued, due := due } : Record).Sound := by
  cases hlead : s.lead b.instrument b.kind with
  | some l =>
    obtain ⟨_, _, hkind⟩ := h.chains.mem_mirrors.1 (List.mem_of_head? hlead)
    obtain ⟨hcurrent, hprevious, hreference, hoperand, _⟩ := (h.records l).values
    rw [Binding.valued_of_lead hlead]
    refine a.banded_sound _ _ _ queued due
      ⟨hcurrent, hprevious, inValueRange_ite hreference inValueRange_none, inValueRange_ite hoperand inValueRange_none⟩
      (fun hsize => (h.records l).size (hkind.trans hsize)) (fun hnet => ?_) fun hnet => ?_
    · exact ⟨if_neg hnet, if_neg hnet⟩
    · have hnet' : b.record.kind = .net := hnet
      rw [if_pos hnet', if_pos hnet']
      exact (h.records l).net (hkind.trans hnet)
  | none =>
    have unseeded : ({ b.record.banded with queued := queued, due := due } : Record).Sound :=
      a.banded_sound _ _ _ queued due ⟨nofun, nofun, nofun, nofun⟩ (fun _ => ⟨nofun, nofun⟩) (fun _ => ⟨rfl, rfl⟩) fun _ => rfl
    rw [Binding.valued_of_no_lead hlead]
    cases hlast : s.lastOf b.instrument with
    | none => exact unseeded
    | some last =>
      have hrange := inValueRange_some (h.lastOf_range hlast)
      have hkind : b.record.kind = b.kind := rfl
      simp only [Option.elim_some, Record.seededWith, hkind]
      split
      · next hnet =>
        exact a.banded_sound _ _ _ queued due ⟨nofun, nofun, nofun, hrange⟩ (fun _ => ⟨nofun, nofun⟩) (fun hnot => absurd hnet hnot)
          fun _ => rfl
      · next hhigh =>
        exact a.banded_sound _ _ _ queued due ⟨hrange, nofun, nofun, nofun⟩ (fun hsize => Kind.noConfusion (hhigh.symm.trans hsize))
          (fun _ => ⟨rfl, rfl⟩) fun hnet => Kind.noConfusion (hhigh.symm.trans hnet)
      · next hlow =>
        exact a.banded_sound _ _ _ queued due ⟨hrange, nofun, nofun, nofun⟩ (fun hsize => Kind.noConfusion (hlow.symm.trans hsize))
          (fun _ => ⟨rfl, rfl⟩) fun hnet => Kind.noConfusion (hlow.symm.trans hnet)
      · exact unseeded

/-- A new mirror holds the shared fields of its lead (R56). -/
theorem valued_shared {b : Binding} {l : Nat} (hlead : s.lead b.instrument b.kind = some l) :
    (b.valued s).shared = (s.slot l).shared := by
  obtain ⟨_, _, hkind⟩ := h.chains.mem_mirrors.1 (List.mem_of_head? hlead)
  have hnew : b.record.kind = b.kind := rfl
  rw [Binding.valued_of_lead hlead, Record.banded_eq]
  refine Record.shared_eq_iff.2 ⟨rfl, rfl, rfl, rfl, rfl, ?_, ?_⟩ <;> dsimp only [copied] <;> rw [hnew] <;> split
  · rfl
  · next hnet => exact ((h.records l).operands (hkind ▸ hnet)).1.symm
  · rfl
  · next hnet => exact ((h.records l).operands (hkind ▸ hnet)).2.symm

end State.FieldsSound

/-! ## The new record among the others -/

/-- The key, guard state and suspect flag with which a record is bound, and the rest of the slots. -/
theorem bindApply_views (b : Binding) (s : State) : ((bindApply b s).slot b.slot).key = (.live, b.instrument, b.kind)
    ∧ ((bindApply b s).slot b.slot).guard = (none, 0)
    ∧ ((bindApply b s).slot b.slot).shared = (b.valued s).shared
    ∧ ∀ j, j ≠ b.slot → (bindApply b s).slot j = s.slot j := by
  refine ⟨?_, ?_, ?_, fun j hj => by rw [bindApply_slot, if_neg hj]⟩
  · rw [bindApply_slot, if_pos rfl, Binding.valued_eq]
    rfl
  · rw [bindApply_slot, if_pos rfl, Binding.valued_eq]
    rfl
  · rw [bindApply_slot, if_pos rfl]
    rfl

section
variable {s : State} (h : s.ChainsSound) {b : Binding} (hfree : (s.slot b.slot).state = .free)
include h hfree

theorem Binding.not_mem_chain (bucket : Nat) : b.slot ∉ s.chain bucket := fun hmem =>
  State.not_free_of_live ((h.members bucket b.slot).1 hmem).1 hfree

/-- The new record is the last mirror of its key (R35, R54). -/
theorem bindApply_mirrors (instrument : Nat) (kind : Kind) : (bindApply b s).mirrors instrument kind =
    s.mirrors instrument kind ++ (if b.instrument = instrument ∧ b.kind = kind then [b.slot] else []) := by
  obtain ⟨hkey, _, _, others⟩ := bindApply_views b s
  obtain ⟨hstate, hinstrument, hkind⟩ := Record.key_eq_iff (x := b.record).1 hkey
  have old : (s.chain (bucketOf instrument kind)).filter (fun k => (bindApply b s).isLive k
        && ((bindApply b s).slot k).instrument == instrument && ((bindApply b s).slot k).kind == kind)
      = s.mirrors instrument kind :=
    List.filter_congr fun j hj => by
      rw [State.isLive, others j fun heq => Binding.not_mem_chain h hfree _ (heq ▸ hj), State.isLive]
  have new : [b.slot].filter (fun k => (bindApply b s).isLive k
        && ((bindApply b s).slot k).instrument == instrument && ((bindApply b s).slot k).kind == kind)
      = if b.instrument = instrument ∧ b.kind = kind then [b.slot] else [] := by
    rw [List.filter_singleton, (State.isLive_iff _ _).2 hstate, Bool.true_and]
    simp only [show ((bindApply b s).slot b.slot).instrument = b.instrument from hinstrument,
      show ((bindApply b s).slot b.slot).kind = b.kind from hkind, cond_eq_ite, Bool.and_eq_true, beq_iff_eq]
  rw [State.mirrors, bindApply_chain]
  split
  · rw [List.filter_append, old, new]
  · next hb => rw [old, if_neg (fun hkey => hb (by rw [hkey.1, hkey.2])), List.append_nil]

theorem bindApply_lead (instrument : Nat) (kind : Kind) : (bindApply b s).lead instrument kind =
    (s.lead instrument kind).or (if b.instrument = instrument ∧ b.kind = kind then some b.slot else none) := by
  rw [State.lead_eq_head?, bindApply_mirrors h hfree, List.head?_append, State.lead_eq_head?]
  split <;> rfl

end

namespace State.FieldsSound

variable {s : State} (h : s.FieldsSound)
include h

theorem bind_chainsSound {b : Binding} {p : List Byte} (a : b.Accepted p s) : (bindApply b s).ChainsSound := by
  have hfree := (State.lowestFree_some a.slot).2.1
  obtain ⟨hkey, _, _, others⟩ := bindApply_views b s
  obtain ⟨hstate, hinstrument, hkind⟩ := Record.key_eq_iff (x := b.record).1 hkey
  refine ⟨fun c => ?_, fun c k => ?_, fun instrument kind => ?_⟩
  · rw [bindApply_chain]
    split
    · exact List.nodup_append.2 ⟨h.chains.nodup c, List.nodup_singleton _, fun i hi j hj heq =>
        Binding.not_mem_chain h.chains hfree c (List.mem_singleton.1 hj ▸ heq ▸ hi)⟩
    · exact h.chains.nodup c
  · rw [bindApply_chain]
    by_cases hk : k = b.slot
    · subst hk
      rw [State.isLive_iff, hstate, hinstrument, hkind]
      have absent := Binding.not_mem_chain h.chains hfree c
      split
      · next hc => simp [hc, Binding.record]
      · next hc => simpa [absent, Binding.record] using Ne.symm hc
    · rw [State.isLive, others k hk, ← State.isLive, ← h.chains.members]
      split <;> simp [hk]
  · rw [bindApply_mirrors h.chains hfree]
    split
    · next hkey =>
      obtain ⟨rfl, rfl⟩ := hkey
      rw [List.length_append]
      exact a.room
    · rw [List.append_nil]
      exact h.chains.four instrument kind

/-- The records of the new record's key hold its shared fields (R39). -/
theorem bind_shared (b : Binding) {j : Nat} (live : s.isLive j = true) (hinstrument : (s.slot j).instrument = b.instrument)
    (hkind : (s.slot j).kind = b.kind) : (s.slot j).shared = (b.valued s).shared := by
  have hmem : j ∈ s.mirrors b.instrument b.kind := h.chains.mem_mirrors.2 ⟨live, hinstrument, hkind⟩
  obtain ⟨l, hl⟩ : ∃ l, s.lead b.instrument b.kind = some l := by
    rw [State.lead_eq_head?, ← Option.isSome_iff_exists, List.isSome_head?]
    exact List.ne_nil_of_mem hmem
  obtain ⟨llive, linstrument, lkind⟩ := h.chains.mem_mirrors.1 (List.mem_of_head? hl)
  rw [h.valued_shared hl]
  refine s.mirrorsAgree_iff.1 h.mirrors j l live llive (Record.key_eq_iff.2 ⟨?_, ?_, ?_⟩)
  · rw [(s.isLive_iff j).1 live, (s.isLive_iff l).1 llive]
  · rw [hinstrument, linstrument]
  · rw [hkind, lkind]

theorem bind_mirrorsAgree (b : Binding) : (bindApply b s).MirrorsAgree := by
  obtain ⟨hkey, _, hshared, others⟩ := bindApply_views b s
  have agrees {j : Nat} (hj : j ≠ b.slot) (live : (bindApply b s).isLive j = true)
      (hjkey : ((bindApply b s).slot j).key = ((bindApply b s).slot b.slot).key) :
      ((bindApply b s).slot j).shared = ((bindApply b s).slot b.slot).shared := by
    rw [State.isLive, others j hj, ← State.isLive] at live
    rw [hkey, others j hj] at hjkey
    obtain ⟨_, hinstrument, hkind⟩ := Record.key_eq_iff (x := b.record).1 hjkey
    rw [hshared, others j hj]
    exact h.bind_shared b live hinstrument hkind
  rw [State.mirrorsAgree_iff]
  intro i j hi hj hij
  by_cases hib : i = b.slot
  · by_cases hjb : j = b.slot
    · rw [hib, hjb]
    · subst hib
      exact (agrees hjb hj hij.symm).symm
  · by_cases hjb : j = b.slot
    · subst hjb
      exact agrees hib hi hij
    · rw [State.isLive, others i hib] at hi
      rw [State.isLive, others j hjb] at hj
      rw [others i hib, others j hjb] at hij ⊢
      exact s.mirrorsAgree_iff.1 h.mirrors i j hi hj hij

theorem bind_guardSound {b : Binding} {p : List Byte} (a : b.Accepted p s) : (bindApply b s).GuardSound := by
  have hfree := (State.lowestFree_some a.slot).2.1
  obtain ⟨hkey, hguard, hshared, others⟩ := bindApply_views b s
  obtain ⟨_, hinstrument, hkind⟩ := Record.key_eq_iff (x := b.record).1 hkey
  obtain ⟨hvalue, hcount⟩ := Record.guard_eq_iff (x := Record.empty).1 hguard
  have hsuspect : ((bindApply b s).slot b.slot).suspect = (b.valued s).suspect := (Record.shared_eq_iff.1 hshared).2.2.2.2.1
  have of_live {j : Nat} (live : s.isLive j = true) : (bindApply b s).slot j = s.slot j :=
    others j fun heq => State.not_free_of_live (heq ▸ live) hfree
  have of_lead {instrument : Nat} {kind : Kind} {l : Nat} (hl : s.lead instrument kind = some l) :
      (bindApply b s).lead instrument kind = some l ∧ (bindApply b s).slot l = s.slot l :=
    ⟨by rw [bindApply_lead h.chains hfree, hl, Option.some_or], of_live (h.chains.mem_mirrors.1 (List.mem_of_head? hl)).1⟩
  have of_no_lead {instrument : Nat} {kind : Kind} {l : Nat} (hnone : s.lead instrument kind = none)
      (hl : (bindApply b s).lead instrument kind = some l) : l = b.slot ∧ b.instrument = instrument ∧ b.kind = kind := by
    rw [bindApply_lead h.chains hfree, hnone, Option.none_or] at hl
    split at hl
    · next hb => exact ⟨(Option.some.inj hl).symm, hb⟩
    · cases hl
  refine ⟨fun instrument kind l hl => ?_, fun instrument kind l j hl hj => ?_, fun j hj => ?_, fun j hj => ?_⟩
  · cases hlead : s.lead instrument kind with
    | some lead =>
      obtain ⟨hlead', hslot⟩ := of_lead hlead
      obtain rfl : lead = l := Option.some.inj (hlead'.symm.trans hl)
      rw [hslot]
      exact h.guarded.lead instrument kind lead hlead
    | none =>
      obtain ⟨rfl, _⟩ := of_no_lead hlead hl
      rw [hvalue, hcount]
      exact ⟨Nat.zero_le _, fun _ => rfl⟩
  · rw [bindApply_mirrors h.chains hfree, List.mem_append] at hj
    cases hlead : s.lead instrument kind with
    | some lead =>
      obtain ⟨hlead', hslot⟩ := of_lead hlead
      obtain rfl : lead = l := Option.some.inj (hlead'.symm.trans hl)
      rw [hslot]
      rcases hj with hj | hj
      · rw [of_live (h.chains.mem_mirrors.1 hj).1]
        exact h.guarded.suspects instrument kind lead j hlead hj
      · split at hj
        · next hb =>
          obtain ⟨rfl, rfl⟩ := hb
          rw [List.mem_singleton.1 hj, hsuspect, Binding.valued_of_lead hlead]
          exact h.guarded.suspects _ _ lead lead hlead (List.mem_of_head? hlead)
        · cases hj
    | none =>
      obtain ⟨rfl, rfl, rfl⟩ := of_no_lead hlead hl
      obtain rfl : j = b.slot := by
        rcases hj with hj | hj
        · rw [State.lead_eq_head?, List.head?_eq_none_iff] at hlead
          rw [hlead] at hj
          cases hj
        · simpa using hj
      rw [hsuspect, hvalue]
      exact (Binding.seeded_values hlead).2.2.2.2.1
  · by_cases hjb : j = b.slot
    · subst hjb
      exact ⟨hvalue, hcount⟩
    · rw [others j hjb] at hj ⊢
      exact h.guarded.others j fun hlead => hj (of_lead hlead).1
  · by_cases hjb : j = b.slot
    · subst hjb
      refine ⟨hvalue, ?_⟩
      rw [hkind] at hj
      rw [hsuspect]
      cases hlead : s.lead b.instrument b.kind with
      | some l =>
        obtain ⟨_, _, hl⟩ := h.chains.mem_mirrors.1 (List.mem_of_head? hlead)
        rw [Binding.valued_of_lead hlead]
        exact (h.guarded.derived l (hl ▸ hj)).2
      | none => exact (Binding.seeded_values hlead).2.2.2.2.1
    · rw [others j hjb] at hj ⊢
      exact h.guarded.derived j hj

/-- An accepted BIND keeps the fields and takes its slot from FREE to LIVE (R54). -/
theorem bindApply {b : Binding} {p : List Byte} (a : b.Accepted p s) :
    s.MovesSlots (some (.free, .live)) (bindApply b s) := by
  obtain ⟨hbound, hfree, _⟩ := State.lowestFree_some a.slot
  obtain ⟨hkey, _, _, others⟩ := bindApply_views b s
  have hlive : ((Machine.bindApply b s).slot b.slot).state = .live := (Record.key_eq_iff (x := b.record).1 hkey).1
  have frame := bindApply_frame b s
  refine ⟨⟨h.bind_chainsSound a, h.bind_mirrorsAgree b, h.bind_guardSound a, fun j => ?_, ?_, ?_⟩, fun j => ?_⟩
  · rw [bindApply_slot]
    split
    · exact h.valued_sound a _ _
    · exact h.records j
  · have alerts : (Machine.bindApply b s).alerts = s.alerts := by rw [frame]
    refine ⟨alerts ▸ h.alerts.nodup, fun e he => ?_⟩
    have live := h.alerts.live e (alerts ▸ he)
    rwa [State.isLive, others e.slot fun heq => State.not_free_of_live (heq ▸ live) hfree]
  · exact h.counted.moved (State.countOf_moved hbound (fun j hj => by rw [others j hj]) hfree hlive) (by rw [frame]; rfl)
      (by rw [frame]; rfl) (by rw [frame]; rfl)
  · by_cases hj : j = b.slot
    · rw [hj, hfree, hlive]
      exact .inr rfl
    · exact .inl (by rw [others j hj])

end State.FieldsSound

/-! ## Every command and event -/

theorem State.InRange.lt_of_not_free {s : State} (h : s.InRange) {k : Nat} (hstate : (s.slot k).state ≠ .free) : k < 1024 := by
  refine Nat.lt_of_not_le fun hk => hstate ?_
  rw [h.slots k hk]
  rfl

namespace State.FieldsSound

variable {s : State} (h : s.FieldsSound)
include h

/-- A message command whose body makes the moves of its row of Table 2-1. -/
theorem command_moves {c : Command} {move : Option (SlotState × SlotState)}
    (hbody : ∀ (m : Message) (t : State), t.FieldsSound → (c.body m t).Leads (t.MovesSlots move)) :
    Step.Leads (s.MovesSlots move) (exec c.instr s) := by
  have taken (reply : Bool) : s.KeepsFields (s.taken reply) := h.of_same rfl (.refl _)
  rw [exec_instr]
  refine runCommand_keeps (h.keeps_self.movesSlots _) (fun reply => (taken reply).movesSlots _) (fun u code r data hu => ?_)
    fun m reply _ _ => ?_
  · exact hu.keeps (hu.sound.of_linkOnly (State.endExecution_linkOnly u code r data))
  · exact (hbody m _ (taken reply).sound).mono fun _ => ((taken reply).movesSlots move).trans

theorem bindBody (m : Message) : (bindBody m s).Leads (s.MovesSlots (some (.free, .live))) := by
  unfold Machine.bindBody
  rcases bindCheck_cases m.params s with ⟨r, _, hcheck⟩ | ⟨_, b, hcheck, accepted⟩
  · rw [hcheck]
    trivial
  · rw [hcheck]
    exact h.bindApply accepted

theorem retireBody (m : Message) : (retireBody m s).Leads (s.MovesSlots (some (.live, .retiring))) := by
  refine .check fun hslot => ?_
  split
  · next live => exact h.retire (Nat.lt_succ_of_le (Nat.not_lt.1 hslot)) live
  · trivial

theorem panelCloseBody (m : Message) : (panelCloseBody m s).Leads (s.MovesSlots (some (.live, .retiring))) :=
  .check fun _ => .check fun _ => h.panelClose _

/-- PAINTER_TAKE, where a queued slot is not FREE (R139, R144). -/
theorem execPainterTake (inRange : s.InRange) (queue : s.QueueSound) :
    Step.Leads (s.MovesSlots (some (.retiring, .free))) (execPainterTake s) := by
  have idle : s.MovesSlots (some (.retiring, .free)) s := h.keeps_self.movesSlots _
  unfold Machine.execPainterTake
  split
  · next k rest hqueue =>
    have hstate : (s.slot k).state ≠ .free := by
      rcases queue.members k (hqueue ▸ List.mem_cons_self ..) with hretiring | ⟨hlive, _⟩
      · rw [hretiring]
        nofun
      · rw [hlive]
        nofun
    have flagged : s.KeepsFields (s.updSlot k (fun r => { r with queued := false })) :=
      h.updSlot rfl rfl rfl { h.records k with free := fun hfree => absurd hfree hstate }
    have taken : s.KeepsFields { s.updSlot k (fun r => { r with queued := false }) with ptr := { s.ptr with queue := rest } } :=
      flagged.trans (flagged.sound.of_same rfl (.refl _))
    split
    · split
      · exact (taken.trans (taken.sound.takeLive (taken.same.state k ▸ hstate))).movesSlots _
      · next hretiring =>
        exact (taken.movesSlots _).trans
          (taken.sound.takeClear (inRange.lt_of_not_free hstate) ((taken.same.state k).trans hretiring))
      · trivial
    · exact idle
  · exact idle

theorem execClearWriteGrant (inRange : s.InRange) (queue : s.QueueSound) :
    Step.Leads (s.MovesSlots (some (.retiring, .free))) (execClearWriteGrant s) := by
  have idle : s.MovesSlots (some (.retiring, .free)) s := h.keeps_self.movesSlots _
  unfold Machine.execClearWriteGrant
  split
  · next k w ws hpainter =>
    obtain ⟨hretiring, _⟩ := queue.clearing k (w :: ws) hpainter
    have hk : k < 1024 := inRange.lt_of_not_free (by rw [hretiring]; nofun)
    split
    · have written := h.clearWrite k w .ptr
      dsimp only
      split
      · exact (written.movesSlots _).trans (written.sound.clearEnded hk ((written.same.state k).trans hretiring))
      · refine (written.movesSlots _).keeps ?_
        exact written.sound.of_same rfl (.refl _)
    · exact idle
  · exact idle

end State.FieldsSound

/-- Every command and event but power-on reset makes at most the moves that Table 2-1 names for it. -/
theorem State.Sound.exec_movesSlots {s : State} (h : s.Sound) {i : Instr} (hi : i ≠ .powerOnReset) :
    Step.Leads (s.MovesSlots (Instr.slotMove i)) (exec i s) := by
  cases hmoves : Instr.movesSlots i with
  | false => exact (h.exec_keepsFields hmoves).mono fun _ kept => kept.movesSlots _
  | true =>
    cases i with
    | powerOnReset => exact absurd rfl hi
    | bind => exact h.fields.command_moves (c := .bind) fun m _ ht => ht.bindBody m
    | retire => exact h.fields.command_moves (c := .retire) fun m _ ht => ht.retireBody m
    | panelClose => exact h.fields.command_moves (c := .panelClose) fun m _ ht => ht.panelCloseBody m
    | painterTake => exact h.fields.execPainterTake h.inRange h.queue
    | clearWriteGrant => exact h.fields.execClearWriteGrant h.inRange h.queue
    | _ => exact Bool.noConfusion hmoves

/-- Power-on reset leaves every slot FREE and nothing listed (R192). -/
theorem State.reset_fieldsSound (pending : List Instr) : ({ State.reset with pending := pending } : State).FieldsSound where
  chains := ⟨fun _ => List.nodup_nil, fun _ _ => by simp [State.chain, State.reset, State.isLive, State.slot, Record.empty],
    fun _ _ => Nat.zero_le _⟩
  mirrors _ _ hj := Bool.noConfusion hj
  guarded := ⟨nofun, nofun, fun _ _ => ⟨rfl, rfl⟩, fun _ _ => ⟨rfl, rfl⟩⟩
  records _ := Record.empty_sound
  alerts := ⟨List.nodup_nil, nofun⟩
  counted := {
    live := (congrArg List.length (List.filter_false allSlots)).symm
    retiring := (congrArg List.length (List.filter_false allSlots)).symm
    free := ((congrArg List.length (List.filter_true allSlots)).trans List.length_range).symm }

theorem State.Sound.exec_fieldsSound {s : State} (h : s.Sound) (i : Instr) : Step.Leads State.FieldsSound (exec i s) := by
  by_cases hi : i = .powerOnReset
  · subst hi
    exact State.reset_fieldsSound s.pending
  · exact (h.exec_movesSlots hi).mono fun _ moved => moved.sound

/-- No promise reads the queue of waiting commands. -/
theorem State.Sound.of_pending {s : State} (h : s.Sound) (pending : List Instr) : ({ s with pending := pending } : State).Sound where
  tables := { h.tables with }
  link := { h.link with }
  bounded := { h.bounded with }
  inRange := { h.inRange with }
  queue := { h.queue with }
  chains := { h.chains with }
  mirrors := h.mirrors
  guarded := { h.guarded with }
  claims := { h.claims with }
  records := h.records
  alerts := { h.alerts with }
  counted := { h.counted with }

/-- A step of a sound state leaves the fields sound. -/
theorem State.Sound.step_fieldsSound {s t : State} (h : s.Sound) (hstep : step s = .next t) : t.FieldsSound := by
  unfold step at hstep
  split at hstep
  · exact Host.Outcome.next.inj hstep ▸ h.fields
  · exact ((h.of_pending _).exec_fieldsSound _).next hstep

/-- Settles O55, as a part of what every step keeps. -/
theorem keyIndexStaysSound : Obligations.KeyIndexStaysSound := fun _ _ h hstep =>
  have fields := h.step_fieldsSound hstep
  ⟨fields.chains, fields.mirrors, fields.guarded⟩

/-- Settles O57, as a part of what every step keeps. -/
theorem recordsStaySound : Obligations.RecordsStaySound := fun _ _ h hstep =>
  have fields := h.step_fieldsSound hstep
  ⟨fields.records, fields.alerts, fields.counted⟩

/-- A move of Table 2-1 with the commands and events that make it. -/
theorem Instr.slotMove_cases {i : Instr} {a b : SlotState} (h : slotMove i = some (a, b)) :
    i = .bind ∧ a = .free ∧ b = .live
      ∨ (i = .retire ∨ i = .panelClose) ∧ a = .live ∧ b = .retiring
      ∨ (i = .clearWriteGrant ∨ i = .painterTake) ∧ a = .retiring ∧ b = .free := by
  cases i <;> cases h <;> simp

/-- Settles O59: the moves are those of `slotMove`, and the counts are kept with the other fields. -/
theorem slotStatesFollowTable : Obligations.SlotStatesFollowTable := by
  intro i s t h hexec hi
  have moved := (h.exec_movesSlots hi).next hexec
  obtain ⟨hlive, hretiring, hfree⟩ := moved.sound.counted
  exact ⟨fun k => (moved.state k).imp_right Instr.slotMove_cases, hlive, hretiring, hfree, moved.sound.counted.total⟩

end Sys2Proof.Machine
end

section
/-!
PROOFS, reading records back: LOOKUP and PROBE (O17, O18).
-/

namespace Sys2Proof.Machine

/-! ## Bytes made of flags (Table 1-8) -/

/-- A byte of six flags. -/
def sixFlags (b0 b1 b2 b3 b4 b5 : Bool) : Byte :=
  byte ((if b0 then 1 else 0) + (if b1 then 2 else 0) + (if b2 then 4 else 0) + (if b3 then 8 else 0) + (if b4 then 16 else 0)
    + (if b5 then 32 else 0))

theorem sixFlags_bits (b0 b1 b2 b3 b4 b5 : Bool) :
    let x := sixFlags b0 b1 b2 b3 b4 b5
    x.getLsbD 0 = b0 ∧ x.getLsbD 1 = b1 ∧ x.getLsbD 2 = b2 ∧ x.getLsbD 3 = b3 ∧ x.getLsbD 4 = b4 ∧ x.getLsbD 5 = b5
      ∧ x.getLsbD 6 = false ∧ x.getLsbD 7 = false ∧ x.toNat < 64 := by
  revert b0 b1 b2 b3 b4 b5
  decide

/-- Record flags A, bit by bit. -/
theorem flagsA_bits (r : Record) :
    (flagsA r).getLsbD 0 = r.current.isSome ∧ (flagsA r).getLsbD 1 = r.previous.isSome
      ∧ (flagsA r).getLsbD 2 = r.suspectValue.isSome ∧ (flagsA r).getLsbD 3 = r.stale ∧ (flagsA r).getLsbD 4 = r.suspect
      ∧ (flagsA r).getLsbD 5 = r.alert ∧ (flagsA r).getLsbD 6 = false ∧ (flagsA r).getLsbD 7 = false ∧ (flagsA r).toNat < 64 :=
  sixFlags_bits ..

/-- Record flags B, bit by bit. -/
theorem flagsB_bits (r : Record) :
    (flagsB r).getLsbD 0 = r.reference.isSome ∧ (flagsB r).getLsbD 1 = r.lastOperand.isSome
      ∧ (flagsB r).getLsbD 2 = r.newValue ∧ (flagsB r).getLsbD 3 = r.queued ∧ (flagsB r).getLsbD 4 = r.due
      ∧ (flagsB r).getLsbD 5 = r.image.isSome ∧ (flagsB r).getLsbD 6 = false ∧ (flagsB r).getLsbD 7 = false
      ∧ (flagsB r).toNat < 64 :=
  sixFlags_bits ..

/-- The options byte of a format descriptor. -/
def Format.options (f : Format) : Byte :=
  byte ((if f.signAlways then 1 else 0) + (if f.fillZero then 2 else 0) + (if f.degrade then 4 else 0) + (if f.digits then 8 else 0))

theorem Format.options_bits (f : Format) :
    f.options.getLsbD 0 = f.signAlways ∧ f.options.getLsbD 1 = f.fillZero ∧ f.options.getLsbD 2 = f.degrade
      ∧ f.options.getLsbD 3 = f.digits ∧ f.options.toNat < 16 := by
  unfold Format.options
  generalize f.signAlways = b0, f.fillZero = b1, f.degrade = b2, f.digits = b3
  revert b0 b1 b2 b3
  decide

/-! ## The flash mask as a number -/

/-- The number with the bits below `n` that `p` picks. -/
def bitsNumber (p : Nat → Bool) (n : Nat) : Nat := ((List.range n).map (fun i => if p i then 2 ^ i else 0)).sum

theorem bitsNumber_succ (p : Nat → Bool) (n : Nat) : bitsNumber p (n + 1) = bitsNumber p n + if p n then 2 ^ n else 0 := by
  simp [bitsNumber, List.range_succ]

theorem bitsNumber_lt (p : Nat → Bool) (n : Nat) : bitsNumber p n < 2 ^ n := by
  induction n with
  | zero => exact Nat.one_pos
  | succ n ih =>
    rw [bitsNumber_succ, Nat.pow_succ]
    split <;> omega

theorem testBit_bitsNumber (p : Nat → Bool) (n i : Nat) : (bitsNumber p n).testBit i = (decide (i < n) && p i) := by
  induction n with
  | zero => simp [bitsNumber]
  | succ n ih =>
    have hlt := bitsNumber_lt p n
    rw [bitsNumber_succ]
    rcases Nat.lt_trichotomy i n with hi | rfl | hi
    · have hstep : (bitsNumber p n + if p n then 2 ^ n else 0).testBit i = (bitsNumber p n).testBit i := by
        split
        · rw [Nat.add_comm, Nat.testBit_two_pow_add_gt hi]
        · rfl
      rw [hstep, ih]
      simp [hi, Nat.lt_succ_of_lt hi]
    · cases hp : p i
      · simp [Nat.testBit_lt_two_pow hlt]
      · simp [Nat.add_comm, Nat.testBit_two_pow_add_eq, Nat.testBit_lt_two_pow hlt]
    · have hsum := bitsNumber_lt p (n + 1)
      rw [bitsNumber_succ] at hsum
      rw [Nat.testBit_lt_two_pow (hsum.trans_le (Nat.pow_le_pow_right Nat.two_pos hi))]
      simp [Nat.not_lt.2 hi]

theorem maskNumber_eq (mask : List Nat) : maskNumber mask = bitsNumber mask.contains 16 := rfl

/-- Bit i of the two mask bytes is span position i (Table 1-8). -/
theorem maskBytes_bit (mask : List Nat) {i : Nat} (hi : i < 16) :
    (byte (maskNumber mask / 256) ++ byte (maskNumber mask) : BitVec 16).getLsbD i = true ↔ i ∈ mask := by
  have hbit : (maskNumber mask).testBit i = mask.contains i := by
    rw [maskNumber_eq, testBit_bitsNumber, decide_eq_true hi, Bool.true_and]
  have hhigh (h8 : 8 ≤ i) : (maskNumber mask / 256).testBit (i - 8) = mask.contains i := by
    rw [show 256 = 2 ^ 8 from rfl, Nat.testBit_div_two_pow, Nat.sub_add_cancel h8, hbit]
  rw [BitVec.getLsbD_append, ← List.contains_iff_mem]
  split
  · next h8 => rw [byte, BitVec.getLsbD_ofNat, hbit, decide_eq_true h8, Bool.true_and]
  · next h8 =>
    rw [byte, BitVec.getLsbD_ofNat, hhigh (Nat.not_lt.1 h8), decide_eq_true (by omega : i - 8 < 8), Bool.true_and]

/-! ## LOOKUP (R42, R43) -/

/-- A command that only reports leaves the state its take leaves, with the answer (R14). -/
theorem exec_reports {s : State} {c : Command} {m : Message} {reply : Bool} {data : List Byte} (ready : s.Ready c m reply)
    (hlength : c.lengthOk m.params = true) (hbody : c.body m (s.taken reply) = .done (s.taken reply) data) :
    exec c.instr s = .next (s.answered m reply .ok data) :=
  exec_done (u := s.taken reply) ready hlength hbody rfl

/-- What LOOKUP does of a good instrument code and a kind (R42, R43). -/
theorem lookupBody_cases (m : Message) (s : State) : lookupBody m s =
    if instrumentOk (u24 m.params 0) = true then
      match Kind.ofNumber (u8 m.params 3) with
      | none => .refuse .badArg
      | some kind =>
        match s.lead (u24 m.params 0) kind with
        | none => .refuse .notFound
        | some lead => .done s (lookupBytes lead (s.mirrors (u24 m.params 0) kind).length (s.slot lead))
    else .refuse .badArg := by
  simp only [lookupBody, State.lead_eq_head?]
  cases instrumentOk (u24 m.params 0)
  · rfl
  · cases Kind.ofNumber (u8 m.params 3) with
    | none => rfl
    | some kind => cases hm : s.mirrors (u24 m.params 0) kind <;> simp [hm]

/-- Settles O17: the bucket by arithmetic, then the body on a key with and without a lead. -/
theorem lookupReportsLead : Obligations.LookupReportsLead := by
  refine ⟨fun a b c kind => ?_, fun s a b c kindByte reply ready => ?_⟩
  · have ha := a.isLt
    have hb := b.isLt
    have hc := c.isLt
    simp only [bucketOf, number24]
    omega
  have hcode : u24 [a, b, c, kindByte] 0 = number24 a b c := by
    simp only [u24, u16, u8, number24, List.getD_cons_zero, List.getD_cons_succ]
    omega
  have hbyte : u8 [a, b, c, kindByte] 3 = kindByte.toNat := rfl
  have body : Command.lookup.body ⟨0x13, [a, b, c, kindByte]⟩ (s.taken reply) = _ := lookupBody_cases _ _
  simp only [hcode, hbyte] at body
  refine ⟨fun hbad => exec_refused ready rfl ?_, fun kind hlow hhigh hkind => ?_⟩
  · rw [body]
    split
    · next hok =>
      rw [instrumentOk_iff] at hok
      rw [(Kind.ofNumber_eq_none_iff _).2 (by omega)]
    · rfl
  · rw [if_pos ((instrumentOk_iff _).2 ⟨hlow, hhigh⟩), (Kind.ofNumber_eq_some_iff _ _).2 hkind] at body
    refine ⟨fun hnone => exec_refused ready rfl ?_, fun lead hlead => ⟨flagsA (s.slot lead), ?_, rfl, ?_⟩⟩
    · have hnone : (s.taken reply).lead (number24 a b c) kind = none := hnone
      simp only [body, hnone]
    · have hlead : (s.taken reply).lead (number24 a b c) kind = some lead := hlead
      exact exec_reports ready rfl (by simp only [body, hlead]; rfl)
    · obtain ⟨h0, h1, h2, h3, h4, h5, h6, h7, _⟩ := flagsA_bits (s.slot lead)
      exact ⟨h0, h1, h2, h3, h4, h5, h6, h7⟩

/-! ## PROBE (R44, R45) -/

/-- The bytes of a slot that is not FREE, one by one (Table 1-9).  `delta` in place of `unfold`: the equation of
`probeBytes` is slow to make. -/
theorem probeBytes_eq {r : Record} (hstate : r.state ≠ .free) : probeBytes r =
    [if r.state = .live then 1 else 2] ++ bytes24 r.instrument
      ++ [byte r.kind.number, byte r.panel, byte r.rowOffset, byte r.colOffset, byte r.page, byte r.row, byte r.col, byte r.width,
          byte r.settings.format.mode.number, byte r.settings.format.source, byte r.settings.format.display,
          r.settings.format.options, byte r.settings.bandMode.number]
      ++ bytesS32 r.settings.lo ++ bytesS32 r.settings.hi ++ bytesS32 r.settings.filter ++ [flagsA r, flagsB r]
      ++ bytesS32 (r.current.getD 0) ++ bytesS32 (r.previous.getD 0) ++ [byte r.direction.number]
      ++ bytesS32 (r.reference.getD 0) ++ bytesS32 (r.lastOperand.getD 0) ++ bytesS32 (r.suspectValue.getD 0)
      ++ [byte r.holdCount, byte r.band.number, byte r.highlight.number, byte r.age, byte (maskNumber r.mask / 256),
          byte (maskNumber r.mask)] ++ r.image.getD [] := by
  have hnumber : byte r.state.number = if r.state = .live then 1 else 2 := by
    cases h : r.state with
    | free => exact absurd h hstate
    | live | retiring => rfl
  delta probeBytes
  simp only [hnumber, bytesOpt, Format.bytes, Format.options, bytes16, List.append_assoc, List.cons_append,
    List.nil_append]

theorem probeBody_cases (m : Message) (s : State) : probeBody m s =
    if 1023 < u16 m.params 0 then .refuse .badArg
    else if (s.slot (u16 m.params 0)).state = .free then .done s [0]
    else .done s (probeBytes (s.slot (u16 m.params 0))) := by
  simp only [probeBody]
  cases (s.slot (u16 m.params 0)).state <;> rfl

/-- Settles O18: the body's three outcomes, the bytes bit by bit, and the codings of Table 1-8. -/
theorem probeReportsSlot : Obligations.ProbeReportsSlot := by
  refine ⟨fun s a b reply ready => ?_, rfl, rfl, rfl, rfl, rfl, rfl⟩
  have body : Command.probe.body ⟨0x14, [a, b]⟩ (s.taken reply) = _ := probeBody_cases _ _
  have hslot : u16 [a, b] 0 = a.toNat * 256 + b.toNat := rfl
  simp only [hslot] at body
  refine ⟨fun hbad => exec_refused ready rfl (by rw [body, if_pos hbad]), fun hk hfree => ?_, fun hk hstate => ?_⟩
  · have hfree : ((s.taken reply).slot (a.toNat * 256 + b.toNat)).state = .free := hfree
    exact exec_reports ready rfl (by rw [body, if_neg (Nat.not_lt.2 hk), if_pos hfree])
  generalize hr : s.slot (a.toNat * 256 + b.toNat) = r at hstate
  have hr' : (s.taken reply).slot (a.toNat * 256 + b.toNat) = r := hr
  obtain ⟨a0, a1, a2, a3, a4, a5, _, _, hA⟩ := flagsA_bits r
  obtain ⟨b0, b1, b2, b3, b4, b5, _, _, hB⟩ := flagsB_bits r
  obtain ⟨o0, o1, o2, o3, hO⟩ := r.settings.format.options_bits
  refine ⟨flagsA r, flagsB r, r.settings.format.options, byte (maskNumber r.mask / 256), byte (maskNumber r.mask), ?_, ?_,
    o0, o1, o2, o3, hO, a0, a1, a2, a3, a4, a5, hA, b0, b1, b2, b3, b4, b5, hB, fun i => maskBytes_bit r.mask⟩
  · refine exec_reports ready rfl ?_
    rw [body, if_neg (Nat.not_lt.2 hk), hr', if_neg hstate, probeBytes_eq hstate]
    rfl
  · simp only [List.length_append, List.length_cons, List.length_nil, bytes24, bytesS32]

end Sys2Proof.Machine
end

section
/-!
PROOFS, what changes at which event (R47, R124, R127, R172, R177, R181, R185, R190, R191). The kinds of state that the manual gives to
named events, with what the Claim Map is held against; each operation leaves all of them but those it is named for.
-/

namespace Sys2Proof.Machine

/-! ## Kinds of state -/

/-- A kind of state that changes only at events of its own. -/
inductive Aspect where
  /-- a sticky flag that goes (R185) -/
  | sticky
  | cells
  | claims
  | attrs
  | banks
  | glyphs
  /-- the shown page, the test pattern and the blink counter (R177) -/
  | frame
  | address
  /-- the settings of CONFIG (R190) -/
  | settings
  | panels
  /-- the states of the slots (R22) -/
  | states
  /-- the placement of the records -/
  | places
  /-- the clear job in hand -/
  | clearing
  /-- the PANEL_MOVE in execution -/
  | moving

/-- Where a record is shown: its panel, its offsets there, its anchor and its width (R25). -/
def Record.placement (r : Record) : Nat × Nat × Nat × Nat × Nat × Nat × Nat :=
  (r.panel, r.rowOffset, r.colOffset, r.page, r.row, r.col, r.width)

/-- What the Claim Map is held against in a record. -/
def Record.place (r : Record) : SlotState × Nat × Nat × Nat × Nat × Nat × Nat × Nat := (r.state, r.placement)

theorem Record.place_eq_iff {r x : Record} : r.place = x.place ↔ r.state = x.state ∧ r.placement = x.placement := by
  simp [Record.place]

/-- The clear job in hand: its slot and the writes not yet granted. -/
def Painter.clearJob : Painter → Option (Nat × List CellWrite)
  | .clearing k ws => some (k, ws)
  | _ => none

/-- The PANEL_MOVE in execution: its panel, the record being vacated, the writes not yet granted and the records after it. -/
def Mdc.move : Mdc → Option (Nat × Nat × List CellWrite × List Nat)
  | .moving _ p _ k ws rest => some (p, k, ws, rest)
  | _ => none

/-- `t` has of the kind of state what `s` has of it; a flag may have been raised. -/
def Aspect.Kept (s t : State) : Aspect → Prop
  | sticky => s.stu.sticky &&& t.stu.sticky = s.stu.sticky
  | cells => t.cst = s.cst
  | claims => t.ftb.claims = s.ftb.claims
  | attrs => t.atu.attrs = s.atu.attrs
  | banks => t.atu.bankA = s.atu.bankA ∧ t.atu.bankB = s.atu.bankB
  | glyphs => t.dou.glyphs = s.dou.glyphs
  | frame => t.dou.shown = s.dou.shown ∧ t.dou.pattern = s.dou.pattern ∧ t.dou.blink = s.dou.blink
  | address => t.lki.unitAddress = s.lki.unitAddress
  | settings => t.agu.flashFrames = s.agu.flashFrames ∧ t.agu.alertFrames = s.agu.alertFrames
      ∧ t.agu.threshold = s.agu.threshold ∧ t.lki.replyGap = s.lki.replyGap ∧ t.stu.flagEnables = s.stu.flagEnables
      ∧ t.stu.alertEnable = s.stu.alertEnable
  | panels => t.panels = s.panels
  | states => ∀ k, (t.slot k).state = (s.slot k).state
  | places => ∀ k, (t.slot k).placement = (s.slot k).placement
  | clearing => t.ptr.painter.clearJob = s.ptr.painter.clearJob
  | moving => t.mdc.move = s.mdc.move

/-- The commands and events named for a kind of state, power-on reset apart. -/
def Aspect.Names : Aspect → Instr → Prop
  | sticky, i => i = .status
  | cells, i => i = .paintWriteGrant ∨ i = .clearWriteGrant ∨ i = .textWriteGrant ∨ i = .vacateWriteGrant
  | claims, i => i = .bind ∨ i = .panelMove ∨ i = .vacateWriteGrant ∨ i = .clearWriteGrant
  | attrs, i => i = .attrSet
  | banks, i => i = .schemeSet ∨ i = .schemeSwap
  | glyphs, i => i = .glyphLoad
  | frame, i => i = .frameStart
  | address, i => ∃ strap, i = .resetRelease strap
  | settings, i => i = .config
  | panels, i => i = .panelOpen ∨ i = .panelClose ∨ i = .panelFreeze ∨ i = .panelThaw ∨ i = .panelMove
  | states, i => i = .bind ∨ i = .retire ∨ i = .panelClose ∨ i = .painterTake ∨ i = .clearWriteGrant
  | places, i => i = .bind ∨ i = .panelMove ∨ i = .vacateWriteGrant ∨ i = .painterTake ∨ i = .clearWriteGrant
  | clearing, i => i = .painterTake ∨ i = .clearWriteGrant
  | moving, i => i = .panelMove ∨ i = .vacateWriteGrant

/-- A set of flags with another added to it still holds its own. -/
theorem and_or_same (a b : Byte) : a &&& (a ||| b) = a := by
  ext i
  simp only [BitVec.getElem_and, BitVec.getElem_or]
  cases a[i] <;> rfl

theorem Aspect.kept_refl (s : State) (a : Aspect) : a.Kept s s := by
  cases a with
  | sticky => exact BitVec.and_self
  | banks => exact ⟨rfl, rfl⟩
  | frame => exact ⟨rfl, rfl, rfl⟩
  | settings => exact ⟨rfl, rfl, rfl, rfl, rfl, rfl⟩
  | states => exact fun _ => rfl
  | places => exact fun _ => rfl
  | _ => exact rfl

theorem Aspect.Kept.trans {a : Aspect} {s t u : State} (hst : a.Kept s t) (htu : a.Kept t u) : a.Kept s u := by
  cases a with
  | sticky =>
    have hst : s.stu.sticky &&& t.stu.sticky = s.stu.sticky := hst
    have htu : t.stu.sticky &&& u.stu.sticky = t.stu.sticky := htu
    show s.stu.sticky &&& u.stu.sticky = s.stu.sticky
    rw [← hst, BitVec.and_assoc, htu]
  | banks => exact ⟨htu.1.trans hst.1, htu.2.trans hst.2⟩
  | frame =>
    obtain ⟨hshown, hpattern, hblink⟩ := hst
    obtain ⟨hshown', hpattern', hblink'⟩ := htu
    exact ⟨hshown'.trans hshown, hpattern'.trans hpattern, hblink'.trans hblink⟩
  | settings =>
    obtain ⟨hflash, halert, hthreshold, hgap, henables, hnotice⟩ := hst
    obtain ⟨hflash', halert', hthreshold', hgap', henables', hnotice'⟩ := htu
    exact ⟨hflash'.trans hflash, halert'.trans halert, hthreshold'.trans hthreshold, hgap'.trans hgap, henables'.trans henables,
      hnotice'.trans hnotice⟩
  | states => exact fun k => (htu k).trans (hst k)
  | places => exact fun k => (htu k).trans (hst k)
  | _ => exact Eq.trans htu hst

/-- `t` has every kind of state as `s` has it, but for those of `P`. -/
def State.Keeps (P : Aspect → Prop) (s t : State) : Prop := ∀ a, ¬ P a → a.Kept s t

namespace State.Keeps

variable {P : Aspect → Prop}

theorem refl (s : State) : s.Keeps P s := fun a _ => a.kept_refl s

theorem trans {s t u : State} (hst : s.Keeps P t) (htu : t.Keeps P u) : s.Keeps P u :=
  fun a ha => (hst a ha).trans (htu a ha)

/-- A fold whose every step keeps; `state` finds the state in what is folded. -/
theorem foldl_of {σ β : Type} (state : σ → State) {f : σ → β → σ} (step : ∀ a b, (state a).Keeps P (state (f a b)))
    (l : List β) (a : σ) : (state a).Keeps P (state (l.foldl f a)) :=
  List.foldlRecOn (motive := fun b => (state a).Keeps P (state b)) l f (.refl _) fun b kept x _ => kept.trans (step b x)

theorem foldl {β : Type} {f : State → β → State} (step : ∀ (s : State) b, s.Keeps P (f s b)) (l : List β) (s : State) :
    s.Keeps P (l.foldl f s) := foldl_of (fun s => s) step l s

end State.Keeps

/-! ## Records and ticks -/

section
variable {P : Aspect → Prop} (s : State) (k : Nat)

/-- A record changed but for its place. -/
theorem State.updSlot_keeps {f : Record → Record} (hf : (f (s.slot k)).place = (s.slot k).place) :
    s.Keeps P (s.updSlot k f) := fun a _ => by
  have same := a.kept_refl s
  have place (j : Nat) : ((s.updSlot k f).slot j).place = (s.slot j).place := by
    rw [State.slot_updSlot]
    split
    · next hj => rw [hj, hf]
    · rfl
  cases a with
  | states => exact fun j => (Record.place_eq_iff.1 (place j)).1
  | places => exact fun j => (Record.place_eq_iff.1 (place j)).2
  | _ => exact same

theorem State.raise_keeps (flag : StickyFlag) : s.Keeps P (s.raise flag) := fun a _ => by
  have same := a.kept_refl s
  cases a with
  | sticky => exact and_or_same _ _
  | _ => exact same

theorem State.enqueue_keeps : s.Keeps P (s.enqueue k) :=
  (s.updSlot_keeps k (f := fun r => { r with queued := true }) rfl).trans fun a _ => by
    have same := a.kept_refl (s.updSlot k fun r => { r with queued := true })
    cases a <;> exact same

theorem State.becomeDue_keeps : s.Keeps P (s.becomeDue k) := by
  unfold State.becomeDue
  split
  · exact .refl s
  · split
    · exact s.updSlot_keeps k rfl
    · exact s.enqueue_keeps k

theorem State.joinGroup_keeps (due : List Nat) : s.Keeps P (s.joinGroup due) := .foldl State.becomeDue_keeps _ s

theorem State.enterAlert_keeps (e : AlertEntry) : s.Keeps P (s.enterAlert e) := fun a _ => by
  rw [State.enterAlert_eq]
  have same := a.kept_refl s
  cases a with
  | sticky => exact and_or_same _ _
  | _ => exact same

theorem State.evaluateBand_keeps : s.Keeps P (s.evaluateBand k) := by
  have evaluated : s.Keeps P (s.setSlot k ((s.slot k).evaluated s.agu.alertFrames)) :=
    s.updSlot_keeps k (f := fun r => r.evaluated s.agu.alertFrames) rfl
  rw [State.evaluateBand_eq]
  split
  · exact evaluated.trans (State.enterAlert_keeps _ _)
  · exact evaluated

theorem State.applyValue_keeps (v : Int) (d : Direction) : s.Keeps P (s.applyValue k v d) :=
  (s.updSlot_keeps k (by rw [Record.applied_eq_taking]; rfl)).trans (State.evaluateBand_keeps _ k)

theorem TickAcc.freshen_keeps (a : TickAcc) : a.state.Keeps P (a.freshen k).state := a.state.updSlot_keeps k rfl

theorem fanNet_keeps (v : Int) (a : TickAcc) : a.state.Keeps P (fanNet v a k).state := by
  have operand : a.state.Keeps P (a.withOperand k v).state := a.state.updSlot_keeps k rfl
  cases hreference : (a.state.slot k).reference with
  | some reference =>
    rw [fanNet_eq_of_some hreference]
    exact operand.trans (State.applyValue_keeps _ k _ _)
  | none =>
    rw [fanNet_eq_of_none hreference]
    exact operand.trans (TickAcc.freshen_keeps k _)

theorem fanExtreme_keeps (v : Int) (beats : Int → Bool) (d : Direction) (a : TickAcc) :
    a.state.Keeps P (fanExtreme v beats d a k).state := by
  unfold fanExtreme
  split
  · exact a.state.applyValue_keeps k _ _
  · split
    · exact a.state.applyValue_keeps k _ _
    · exact a.freshen_keeps k

theorem fanOut_keeps (instrument : Nat) (v : Int) (a : TickAcc) : a.state.Keeps P (fanOut s instrument v a).state := by
  simp only [fanOut, fanHigh_eq, fanLow_eq]
  exact ((State.Keeps.foldl_of TickAcc.state (fun a k => fanNet_keeps k v a) _ a).trans
    (.foldl_of TickAcc.state (fun a k => fanExtreme_keeps k v _ _ a) _ _)).trans
    (.foldl_of TickAcc.state (fun a k => fanExtreme_keeps k v _ _ a) _ _)

theorem State.clearGuard_keeps (mirrors : List Nat) : s.Keeps P (s.clearGuard mirrors) := by
  have marks (t : State) : t.Keeps P (mirrors.foldl (fun t k => t.updSlot k (fun r => { r with suspect := false })) t) :=
    .foldl (fun t k => t.updSlot_keeps k rfl) mirrors t
  cases mirrors with
  | nil => exact marks s
  | cons lead others =>
    exact (s.updSlot_keeps lead (f := fun r => { r with suspectValue := none, holdCount := 0 }) rfl).trans (marks _)

theorem State.holdPrint_keeps (lead : Nat) (mirrors : List Nat) (v : Int) : s.Keeps P (s.holdPrint lead mirrors v) :=
  ((s.updSlot_keeps lead rfl).trans (.foldl (fun t k => t.updSlot_keeps k rfl) mirrors _)).trans (State.raise_keeps _ _)

theorem acceptTick_keeps (a : TickAcc) (instrument : Nat) (kind : Kind) (v : Int) (d : Direction) :
    a.state.Keeps P (acceptTick a instrument kind v d).state := by
  simp only [acceptTick]
  have applied : a.state.Keeps P _ := (a.state.clearGuard_keeps (a.state.mirrors instrument kind)).trans
    (.foldl_of TickAcc.state (f := fun a k => a.apply k v d) (fun a k => a.state.applyValue_keeps k v d)
      (a.state.mirrors instrument kind) { a with state := a.state.clearGuard (a.state.mirrors instrument kind) })
  split
  · exact applied.trans (fanOut_keeps _ _ _ _)
  · exact applied

theorem evaluateTick_keeps (a : TickAcc) (instrument : Nat) (kind : Kind) (value : Int) :
    a.state.Keeps P (evaluateTick a instrument kind value).2.state := by
  simp only [evaluateTick]
  split
  · split
    · exact acceptTick_keeps { a with updated := 0 } _ _ _ _
    · exact .refl _
  · split
    · exact a.state.holdPrint_keeps _ _ _
    · exact acceptTick_keeps { a with updated := 0 } _ _ _ _

theorem evaluateTicks_keeps (instrument : Nat) (values : List (Kind × Int)) (a : TickAcc) (out : List Byte) :
    a.state.Keeps P (evaluateTicks instrument values a out).1.state := by
  induction values generalizing a out with
  | nil => exact .refl _
  | cons value rest ih => exact (evaluateTick_keeps a instrument value.1 value.2).trans (ih _ _)

theorem Record.endTick_place (r : Record) : r.endTick.place = r.place := by
  unfold Record.endTick
  split <;> rfl

theorem State.referSlot_keeps (reference : Option Int) : s.Keeps P (State.referSlot reference s k) :=
  (s.updSlot_keeps k (by rw [Record.referred_eq]; exact Record.endTick_place _)).trans (State.evaluateBand_keeps _ k)

theorem State.restartSlot_keeps (v : Option Int) : s.Keeps P (State.restartSlot v s k) :=
  (s.updSlot_keeps k (f := fun r => r.restarted v) (Record.endTick_place _)).trans (State.evaluateBand_keeps _ k)

/-! ## Binding, amending, retiring, freezing and moving (chapters 3 and 6) -/

theorem amendApply_keeps (settings : Settings) : s.Keeps P (amendApply k settings s) :=
  ((s.updSlot_keeps k rfl).trans (State.evaluateBand_keeps _ k)).trans (State.becomeDue_keeps _ k)

theorem State.claimAll_keeps (hclaims : P .claims) (cells : List Nat) : s.Keeps P (s.claimAll k cells) := fun a ha => by
  rw [(State.claimAll_spec s k cells).2]
  have same := a.kept_refl s
  cases a with
  | claims => exact absurd hclaims ha
  | _ => exact same

theorem bindApply_keeps (hclaims : P .claims) (hstates : P .states) (hplaces : P .places) (b : Binding) :
    s.Keeps P (bindApply b s) := by
  have linked : s.Keeps P (b.linked s) := fun a ha => by
    have same := a.kept_refl s
    cases a with
    | states => exact absurd hstates ha
    | places => exact absurd hplaces ha
    | _ => exact same
  exact (linked.trans (State.claimAll_keeps _ _ hclaims _)).trans (State.becomeDue_keeps _ _)

/-- Unlinking moves guard state alone among a record's fields, whatever the chains hold (R35, R41). -/
theorem State.unlink_keeps : s.Keeps P (s.unlink k) := by
  have unchained : s.Keeps P (s.setChain (bucketOf (s.slot k).instrument (s.slot k).kind)
      ((s.chain (bucketOf (s.slot k).instrument (s.slot k).kind)).filter (· != k))) := fun a _ => by
    have same := a.kept_refl s
    cases a <;> exact same
  simp only [State.unlink]
  split
  · exact unchained
  · split
    · have emptied := unchained.trans (State.updSlot_keeps _ k (f := fun x => { x with suspectValue := none, holdCount := 0 }) rfl)
      split
      · exact emptied
      · exact emptied.trans (State.updSlot_keeps _ _ rfl)
    · exact unchained

theorem State.withdraw_keeps (hstates : P .states) : s.Keeps P (s.withdraw k) :=
  (s.unlink_keeps k).trans fun a ha => by
    have same := a.kept_refl (s.unlink k)
    cases a with
    | states => exact absurd hstates ha
    | places =>
      intro j
      have base : (s.withdraw k).slot j = ((s.unlink k).updSlot k Record.withdrawn).slot j := rfl
      rw [base, State.slot_updSlot]
      split
      · next hj => rw [hj]; rfl
      · rfl
    | _ => exact same

theorem State.retire_keeps (hstates : P .states) : s.Keeps P (s.retire k) := by
  rw [State.retire_eq]
  split
  · exact s.withdraw_keeps k hstates
  · exact (s.withdraw_keeps k hstates).trans (State.enqueue_keeps _ k)

theorem State.setPanel_keeps (hpanels : P .panels) (e : Option Panel) : s.Keeps P (s.setPanel k e) := fun a ha => by
  have same := a.kept_refl s
  cases a with
  | panels => exact absurd hpanels ha
  | _ => exact same

theorem panelClose_keeps (hstates : P .states) (hpanels : P .panels) : s.Keeps P (panelClose k s) :=
  (State.Keeps.foldl (fun t j => t.retire_keeps j hstates) _ s).trans (State.setPanel_keeps _ k hpanels none)

theorem State.defer_keeps : s.Keeps P (s.defer k) :=
  (s.updSlot_keeps k (f := fun r => { r with queued := false, due := true }) rfl).trans fun a _ => by
    have same := a.kept_refl (s.updSlot k fun r => { r with queued := false, due := true })
    cases a <;> exact same

theorem State.resume_keeps : s.Keeps P (s.resume k) := (s.updSlot_keeps k rfl).trans (State.enqueue_keeps _ k)

theorem panelFreeze_keeps (hpanels : P .panels) (e : Panel) : s.Keeps P (panelFreeze k e s) := by
  unfold panelFreeze
  split
  · exact .refl s
  · exact (s.setPanel_keeps k hpanels _).trans (.foldl State.defer_keeps _ _)

theorem panelThaw_keeps (hpanels : P .panels) (e : Panel) : s.Keeps P (panelThaw k e s) := by
  unfold panelThaw
  split
  · exact (s.setPanel_keeps k hpanels _).trans (.foldl State.resume_keeps _ _)
  · exact .refl s

section
variable (hclaims : P .claims) (hplaces : P .places)
include hclaims hplaces

theorem State.reclaim_keeps : s.Keeps P (s.reclaim k) := by
  unfold State.reclaim
  split
  · exact .refl s
  · next e _ =>
    have anchored : s.Keeps P
        (s.updSlot k (fun r => { r with page := e.page, row := e.row + r.rowOffset, col := e.col + r.colOffset })) :=
      fun a ha => by
        have same := a.kept_refl s
        cases a with
        | states =>
          intro j
          rw [State.slot_updSlot]
          split
          · next hj => rw [hj]
          · rfl
        | places => exact absurd hplaces ha
        | _ => exact same
    exact (anchored.trans (State.claimAll_keeps _ k hclaims _)).trans (State.becomeDue_keeps _ k)

theorem moveNext_keeps (hmoving : P .moving) (m : Message) (p cleared : Nat) (records : List Nat) :
    s.Keeps P (moveNext m p cleared records s) := by
  induction records generalizing s with
  | nil =>
    intro a ha
    have same := a.kept_refl s
    cases a with
    | moving => exact absurd hmoving ha
    | _ => exact same
  | cons k rest ih =>
    unfold moveNext
    split
    · exact (s.reclaim_keeps k hclaims hplaces).trans (ih _)
    · intro a ha
      have same := a.kept_refl s
      cases a with
      | moving => exact absurd hmoving ha
      | _ => exact same

end

/-! ## Schemes, jobs and the sweep -/

theorem State.setScheme_keeps (hbanks : P .banks) (bank : Bank) (condition index : Nat) :
    s.Keeps P (s.setScheme bank condition index) := fun a ha => by
  have same := a.kept_refl s
  cases a with
  | banks => exact absurd hbanks ha
  | _ => cases bank <;> exact same

theorem State.endExecution_keeps (hidle : s.mdc.move = none) (code : Byte) (r : Result) (data : List Byte) :
    s.Keeps P (s.endExecution code r data) := fun a _ => by
  have same := a.kept_refl s
  cases a with
  | moving => exact hidle.symm
  | _ => exact same

theorem State.jobEnded_keeps : s.Keeps P (s.jobEnded k) := by
  simp only [State.jobEnded]
  split
  · next m job slots hmdc =>
    have hidle : s.mdc.move = none := by rw [hmdc]; rfl
    generalize (if job then slots else slots.filter (· != k)) = rest
    split
    · exact s.endExecution_keeps hidle _ _ _
    · intro a _
      have same := a.kept_refl s
      cases a with
      | moving => exact hidle.symm
      | _ => exact same
  · exact .refl s

theorem Record.aged_place (r : Record) (n : Nat) : (r.aged n).place = r.place := by
  unfold Record.aged
  split
  · rfl
  · split <;> rfl

theorem State.ageAll_keeps : s.Keeps P s.ageAll := by
  have aged : s.Keeps P ((allSlots.filter (fun k => 0 < (s.slot k).age)).foldl
      (fun t k => t.updSlot k (fun r => r.aged s.agu.owed)) s) :=
    .foldl (fun t k => t.updSlot_keeps k (Record.aged_place _ _)) _ s
  refine aged.trans ?_
  unfold State.ageAll
  generalize (allSlots.filter _).foldl _ s = t
  intro a _
  have same := a.kept_refl t
  cases a <;> exact same

theorem State.clearEnded_keeps (hstates : P .states) (hplaces : P .places) (hclearing : P .clearing) : s.Keeps P (s.clearEnded k) := by
  unfold State.clearEnded
  refine State.Keeps.trans ?_ (State.jobEnded_keeps _ k)
  intro a ha
  have same := a.kept_refl s
  cases a with
  | states => exact absurd hstates ha
  | places => exact absurd hplaces ha
  | clearing => exact absurd hclearing ha
  | _ => exact same

theorem State.takeClear_keeps (hstates : P .states) (hplaces : P .places) (hclearing : P .clearing) : s.Keeps P (s.takeClear k) := by
  unfold State.takeClear
  split
  · exact s.clearEnded_keeps k hstates hplaces hclearing
  · intro a ha
    have same := a.kept_refl s
    cases a with
    | clearing => exact absurd hclearing ha
    | _ => exact same

/-- The Painter on to another job, or the rest of one, that is no clear job before or after. -/
theorem State.setPainter_keeps {painter : Painter} (hjob : s.ptr.painter.clearJob = painter.clearJob) :
    s.Keeps P { s with ptr := { s.ptr with painter := painter } } := fun a _ => by
  have same := a.kept_refl s
  cases a with
  | clearing => exact hjob.symm
  | _ => exact same

theorem State.takeLive_keeps (hjob : s.ptr.painter.clearJob = none) : s.Keeps P (s.takeLive k) := by
  simp only [State.takeLive]
  split
  · exact .trans (s.updSlot_keeps k rfl) (State.setPainter_keeps _ hjob)
  · exact s.setPainter_keeps hjob

theorem State.paintEnded_keeps (string : List Byte) (hjob : s.ptr.painter.clearJob = none) :
    s.Keeps P (s.paintEnded k string) :=
  ((s.updSlot_keeps k rfl).trans (State.setPainter_keeps _ (painter := .idle) hjob)).trans (State.jobEnded_keeps _ k)

/-! ## Grants -/

theorem State.writeCell_keeps (hcells : P .cells) (w : CellWrite) (q : Requester) :
    s.Keeps P ((s.writeCell w).setMark q) := fun a ha => by
  have same := a.kept_refl s
  cases a with
  | cells => exact absurd hcells ha
  | _ => exact same

theorem State.setMark_keeps (hcells : P .cells) (q : Requester) : s.Keeps P (s.setMark q) := fun a ha => by
  have same := a.kept_refl s
  cases a with
  | cells => exact absurd hcells ha
  | _ => exact same

end

end Sys2Proof.Machine
end

section
/-!
PROOFS, each kind of state changes only at the events named for it (O60): the commands, the events of the link, the grants, the frames
and the sweep, each with the kinds it is named for.
-/

namespace Sys2Proof.Machine

/-- `t` is `s` but for the kinds of state that the command or event `i` is named for. -/
abbrev State.KeepsBut (i : Instr) (s t : State) : Prop := s.Keeps (fun a => a.Names i) t

/-! ## Commands -/

section
variable {s : State}

theorem startWriting_keeps {P : Aspect → Prop} (hidle : s.mdc.move = none) (m : Message) (ws : List CellWrite) :
    (startWriting m ws s).Leads (s.Keeps P) := by
  cases ws with
  | nil => exact .refl s
  | cons w ws =>
    intro a _
    have same := a.kept_refl s
    cases a with
    | moving => exact hidle.symm
    | _ => exact same

/-- The body of a command changes of the kinds of state those that the command is named for. -/
theorem Command.body_keepsBut (hidle : s.mdc.move = none) (c : Command) (m : Message) :
    (c.body m s).Leads (s.KeepsBut c.instr) := by
  have unchanged {i : Instr} : s.KeepsBut i s := .refl s
  cases c with
  | bind =>
    simp only [Command.body, bindBody]
    split
    · trivial
    · exact bindApply_keeps s (.inl rfl) (.inl rfl) (.inl rfl) _
  | amend =>
    simp only [Command.body, amendBody]
    split
    · trivial
    · exact amendApply_keeps s _ _
  | retire =>
    refine .check fun _ => ?_
    split
    · exact s.retire_keeps _ (.inr (.inl rfl))
    · trivial
  | lookup =>
    refine .check fun _ => ?_
    split
    · trivial
    · split
      · trivial
      · exact unchanged
  | probe =>
    refine .check fun _ => ?_
    split <;> exact unchanged
  | tick =>
    refine .check fun _ => ?_
    split
    · trivial
    · exact .check fun _ => (evaluateTick_keeps ⟨s, [], 0⟩ _ _ _).trans (State.joinGroup_keeps _ _)
  | qtick =>
    exact .check fun _ => .check fun _ => .check fun _ =>
      (evaluateTicks_keeps _ _ ⟨s, [], 0⟩ _).trans (State.joinGroup_keeps _ _)
  | refer =>
    exact .check fun _ => .check fun _ =>
      (State.Keeps.foldl (fun t k => t.referSlot_keeps k _) _ s).trans (State.joinGroup_keeps _ _)
  | extremesClear =>
    exact .check fun _ => (State.Keeps.foldl (fun t k => t.restartSlot_keeps k _) _ s).trans (State.joinGroup_keeps _ _)
  | stale =>
    exact .check fun _ => (State.Keeps.foldl (fun t k => t.updSlot_keeps k rfl) _ s).trans (State.joinGroup_keeps _ _)
  | alerts =>
    refine .check fun _ => fun a _ => ?_
    have same := a.kept_refl s
    cases a <;> exact same
  | panelOpen =>
    refine .check fun _ => .check fun _ => .check fun _ => .check fun _ => ?_
    split
    · trivial
    · exact .check fun _ => .check fun _ => s.setPanel_keeps _ (.inl rfl) _
  | panelClose =>
    exact .check fun _ => .check fun _ => panelClose_keeps s _ (.inr (.inr (.inl rfl))) (.inr (.inl rfl))
  | panelFreeze =>
    refine .check fun _ => ?_
    split
    · trivial
    · exact panelFreeze_keeps s _ (.inr (.inr (.inl rfl))) _
  | panelThaw =>
    refine .check fun _ => ?_
    split
    · trivial
    · exact panelThaw_keeps s _ (.inr (.inr (.inr (.inl rfl)))) _
  | panelMove =>
    simp only [Command.body, panelMoveBody]
    refine .check fun _ => .check fun _ => ?_
    split
    · trivial
    · generalize (s.panelRecords (u8 m.params 0)).any _ = collides
      refine .check fun _ => .check fun _ => .check fun _ => ?_
      exact (s.setPanel_keeps _ (.inr (.inr (.inr (.inr rfl)))) _).trans
        (moveNext_keeps _ (.inr (.inl rfl)) (.inr (.inl rfl)) (.inl rfl) m _ _ _)
  | attrSet =>
    refine .check fun _ => .check fun _ => .check fun _ => .check fun _ => fun a ha => ?_
    have same := a.kept_refl s
    cases a with
    | attrs => exact absurd rfl ha
    | _ => exact same
  | schemeSet =>
    simp only [Command.body, schemeSetBody]
    split
    · trivial
    · exact .check fun _ => .check fun _ => (s.setScheme_keeps (.inl rfl) _ _ _).trans (State.joinGroup_keeps _ _)
  | schemeSwap =>
    refine State.Keeps.trans (t := s.swapBanks) (fun a ha => ?_) (State.joinGroup_keeps _ _)
    have same := a.kept_refl s
    cases a with
    | banks => exact absurd (.inr rfl) ha
    | _ => exact same
  | text =>
    simp only [Command.body, textBody]
    split
    · trivial
    · exact .check fun _ => .check fun _ => startWriting_keeps hidle m _
  | fill =>
    simp only [Command.body, fillBody]
    split
    · trivial
    · exact .check fun _ => .check fun _ => .check fun _ => startWriting_keeps hidle m _
  | showPage =>
    refine .check fun _ => fun a _ => ?_
    have same := a.kept_refl s
    cases a <;> exact same
  | pattern =>
    refine .check fun _ => fun a _ => ?_
    have same := a.kept_refl s
    cases a <;> exact same
  | glyphLoad =>
    refine .check fun _ => fun a ha => ?_
    have same := a.kept_refl s
    cases a with
    | glyphs => exact absurd rfl ha
    | _ => exact same
  | status =>
    intro a ha
    have same := a.kept_refl s
    cases a with
    | sticky => exact absurd rfl ha
    | _ => exact same
  | config =>
    refine .check fun _ => fun a ha => ?_
    have same := a.kept_refl s
    cases a with
    | settings => exact absurd rfl ha
    | _ => exact same
  | sync =>
    simp only [Command.body, syncBody]
    split
    · exact unchanged
    · intro a _
      have same := a.kept_refl s
      cases a with
      | moving => exact hidle.symm
      | _ => exact same

theorem State.taken_keeps {P : Aspect → Prop} (s : State) (reply : Bool) : s.Keeps P (s.taken reply) := fun a _ => by
  have same := a.kept_refl s
  cases a <;> exact same

theorem State.Ready.move_none {c : Command} {m : Message} {reply : Bool} (ready : s.Ready c m reply) : s.mdc.move = none := by
  rw [ready.idle]
  rfl

theorem Command.exec_keepsBut (c : Command) (s : State) : Step.Leads (s.KeepsBut c.instr) (exec c.instr s) := by
  rw [exec_instr]
  rcases runCommand_cases c c.body s with same | ⟨m, reply, ready⟩
  · rw [same]
    exact .refl s
  · refine runCommand_keeps (.refl s) s.taken_keeps (fun u code r data hu a ha => ?_) fun m reply ready _ => ?_
    · cases a with
      | moving => exact ready.move_none.symm
      | _ => exact hu _ ha
    · exact (Command.body_keepsBut (s := s.taken reply) ready.move_none c m).mono fun _ => (s.taken_keeps reply).trans

end

/-! ## The events of the link -/

section
variable {P : Aspect → Prop} (s : State)

theorem State.setLki_keeps {l : Lki} (haddress : l.unitAddress = s.lki.unitAddress) (hgap : l.replyGap = s.lki.replyGap) :
    s.Keeps P { s with lki := l } := fun a _ => by
  have same := a.kept_refl s
  cases a with
  | address => exact haddress
  | settings => exact ⟨rfl, rfl, rfl, hgap, rfl, rfl⟩
  | _ => exact same

theorem State.addSticky_keeps (flags : Byte) :
    s.Keeps P { s with stu := { s.stu with sticky := s.stu.sticky ||| flags } } := fun a _ => by
  have same := a.kept_refl s
  cases a with
  | sticky => exact and_or_same _ _
  | _ => exact same

theorem State.setRx_keeps (rx : RxState) : s.Keeps P (s.setRx rx) := s.setLki_keeps rfl rfl

theorem rxStep_keeps (before next : RxState) : s.Keeps P (rxStep before next s) := by
  unfold rxStep
  split
  · exact s.setRx_keeps next
  · exact .refl s

theorem State.addressReceived_keeps (v : Byte) (damaged : Bool) : s.Keeps P (s.addressReceived v damaged) := by
  obtain ⟨_, _, _, _, _, _, hgap, haddress⟩ :=
    s.lki.select_keeps (if damaged then .deaf else selectionOf s.lki.unitAddress v)
  rw [State.addressReceived_eq, BitVec.or_assoc]
  exact (s.setLki_keeps haddress hgap).trans (State.addSticky_keeps _ _)

theorem State.dataReceived_keeps (v : Byte) (parity framing : Bool) : s.Keeps P (s.dataReceived v parity framing) := by
  unfold State.dataReceived
  split
  · exact .refl s
  · split
    · exact s.setLki_keeps rfl rfl
    · exact (s.setLki_keeps rfl rfl).trans (State.raise_keeps _ _)

theorem execAssemblerTake_keeps : Step.Leads (s.Keeps P) (execAssemblerTake s) := by
  cases hinbound : s.lki.inbound with
  | nil =>
    simp only [execAssemblerTake, hinbound]
    exact .refl s
  | cons e rest =>
    cases hgo : !s.resetLow && s.lki.held.isNone with
    | true =>
      obtain ⟨hreset, hheld⟩ : s.resetLow = false ∧ s.lki.held = none := by simpa using hgo
      rw [execAssemblerTake_takes hreset hheld hinbound, BitVec.or_assoc]
      exact (s.setLki_keeps rfl rfl).trans (State.addSticky_keeps _ _)
    | false =>
      simp only [execAssemblerTake, hinbound, hgo]
      exact .refl s

/-- A take that ends its execution at once: MDC was IDLE before it. -/
theorem State.takeHeld_endExecution_keeps {reply : Bool} (may : s.mayTake reply = true) (code : Byte) (r : Result)
    (data : List Byte) : s.Keeps P ((s.takeHeld reply).endExecution code r data) := by
  have hidle : (s.takeHeld reply).mdc.move = none := by
    rw [State.takeHeld_mdc, ((s.mayTake_iff reply).1 may).2.1]
    rfl
  exact (s.setLki_keeps rfl rfl).trans (State.endExecution_keeps _ hidle _ _ _)

/-- An event of the link raises flags at most and moves no setting; the release of RESET alone sets the unit address. -/
theorem exec_link_keepsBut {i : Instr} (h : linkEvent i = true) : Step.Leads (s.KeepsBut i) (exec i s) := by
  cases i with
  | resetRelease strap =>
    simp only [exec, execResetRelease]
    split
    · intro a ha
      have same := a.kept_refl s
      cases a with
      | address => exact absurd ⟨strap, rfl⟩ ha
      | _ => exact same
    · exact .refl s
  | settleEnd => exact rxStep_keeps s _ _
  | startBitFall => exact rxStep_keeps s _ _
  | falseStart => exact rxStep_keeps s _ _
  | awaitHighExit => exact rxStep_keeps s _ _
  | addressCharacter v parity stop =>
    simp only [exec, execAddressCharacter]
    split
    · exact (s.setRx_keeps _).trans (State.addressReceived_keeps _ _ _)
    · exact .refl s
  | dataCharacter v parity stop =>
    simp only [exec, execDataCharacter]
    split
    · exact (s.setRx_keeps _).trans (State.dataReceived_keeps _ _ _ _)
    · exact .refl s
  | breakEvent =>
    simp only [exec, execBreak]
    split
    · exact s.setLki_keeps rfl rfl
    · exact .refl s
  | assemblerTake => exact execAssemblerTake_keeps s
  | discardNoticeTake =>
    simp only [exec, execDiscardNoticeTake]
    split
    · split
      · next may => exact s.takeHeld_endExecution_keeps may _ _ _
      · exact .refl s
    · exact .refl s
  | unknownCommand =>
    simp only [exec, execUnknownCommand]
    split
    · split
      · next may => exact s.takeHeld_endExecution_keeps (Bool.and_eq_true_iff.1 may).1 _ _ _
      · exact .refl s
    · exact .refl s
  | replyStart high =>
    simp only [exec, execReplyStart]
    split
    · split
      · split <;> exact s.setLki_keeps rfl rfl
      · exact .refl s
    · exact .refl s
  | replyEnd =>
    simp only [exec, execReplyEnd]
    split
    · split
      · exact .refl s
      · exact s.setLki_keeps rfl rfl
    · exact .refl s
  | replyCutShort =>
    simp only [exec, execReplyCutShort]
    split
    · exact s.setLki_keeps rfl rfl
    · exact .refl s
  | _ => exact absurd h Bool.false_ne_true

end

/-! ## Grants, the Painter, frames and the sweep -/

section
variable (s : State)

/-- A job in hand that is no clear job. -/
theorem Painter.clearJob_painting {painter : Painter} {k : Nat} {sn : Snapshot} {bank : Bank} {string : List Byte}
    {ws : List CellWrite} (h : painter = .painting k sn bank string ws) : painter.clearJob = none := by
  rw [h]
  rfl

theorem execPaintWriteGrant_keepsBut : Step.Leads (s.KeepsBut .paintWriteGrant) (execPaintWriteGrant s) := by
  unfold execPaintWriteGrant
  split
  · next k sn bank string w ws hpainter =>
    split
    · have written : s.KeepsBut .paintWriteGrant ((s.paintWrite k w).setMark .ptr) := by
        unfold State.paintWrite
        split
        · exact s.writeCell_keeps (.inl rfl) w .ptr
        · exact s.setMark_keeps (.inl rfl) .ptr
      have hjob : ((s.paintWrite k w).setMark .ptr).ptr.painter.clearJob = none :=
        Painter.clearJob_painting (by unfold State.paintWrite; split <;> exact hpainter)
      dsimp only
      split
      · exact written.trans (State.paintEnded_keeps _ k string hjob)
      · exact written.trans (State.setPainter_keeps _ hjob)
    · exact .refl s
  · exact .refl s

theorem execTextWriteGrant_keepsBut : Step.Leads (s.KeepsBut .textWriteGrant) (execTextWriteGrant s) := by
  unfold execTextWriteGrant
  split
  · next m w ws hmdc =>
    split
    · have written : s.KeepsBut .textWriteGrant ((s.textWrite w).setMark .mdc) := by
        unfold State.textWrite
        split
        · exact s.writeCell_keeps (.inr (.inr (.inl rfl))) w .mdc
        · exact s.setMark_keeps (.inr (.inr (.inl rfl))) .mdc
      have hidle : ((s.textWrite w).setMark .mdc).mdc.move = none := by
        have : ((s.textWrite w).setMark .mdc).mdc = s.mdc := by unfold State.textWrite; split <;> rfl
        rw [this, hmdc]
        rfl
      dsimp only
      split
      · exact written.trans (State.endExecution_keeps _ hidle _ _ _)
      · refine written.trans fun a _ => ?_
        have same := a.kept_refl ((s.textWrite w).setMark .mdc)
        cases a with
        | moving => exact hidle.symm
        | _ => exact same
    · exact .refl s
  · exact .refl s

/-- A claim released by a granted blank. -/
theorem State.releaseWrite_keeps {P : Aspect → Prop} (hcells : P .cells) (hclaims : P .claims) (w : CellWrite)
    (q : Requester) : s.Keeps P (((s.writeCell w).setClaim w.cell none).setMark q) := fun a ha => by
  have same := a.kept_refl s
  cases a with
  | cells => exact absurd hcells ha
  | claims => exact absurd hclaims ha
  | _ => exact same

theorem execVacateWriteGrant_keepsBut : Step.Leads (s.KeepsBut .vacateWriteGrant) (execVacateWriteGrant s) := by
  have hclaims : Aspect.Names .claims .vacateWriteGrant := .inr (.inr (.inl rfl))
  have hcells : Aspect.Names .cells .vacateWriteGrant := .inr (.inr (.inr rfl))
  have hplaces : Aspect.Names .places .vacateWriteGrant := .inr (.inr (.inl rfl))
  have hmoving : Aspect.Names .moving .vacateWriteGrant := .inr rfl
  unfold execVacateWriteGrant
  split
  · next m p cleared k w ws rest _ =>
    split
    · have written : s.KeepsBut .vacateWriteGrant ((s.vacate k w).setMark .mdc) := by
        unfold State.vacate
        split
        · exact s.releaseWrite_keeps hcells hclaims w .mdc
        · exact s.setMark_keeps hcells .mdc
      dsimp only
      split
      · exact (written.trans (State.reclaim_keeps _ k hclaims hplaces)).trans
          (moveNext_keeps _ hclaims hplaces hmoving m p cleared rest)
      · refine written.trans fun a ha => ?_
        have same := a.kept_refl ((s.vacate k w).setMark .mdc)
        cases a with
        | moving => exact absurd hmoving ha
        | _ => exact same
    · exact .refl s
  · exact .refl s

theorem execClearWriteGrant_keepsBut : Step.Leads (s.KeepsBut .clearWriteGrant) (execClearWriteGrant s) := by
  have hclaims : Aspect.Names .claims .clearWriteGrant := .inr (.inr (.inr rfl))
  have hcells : Aspect.Names .cells .clearWriteGrant := .inr (.inl rfl)
  have hstates : Aspect.Names .states .clearWriteGrant := .inr (.inr (.inr (.inr rfl)))
  have hplaces : Aspect.Names .places .clearWriteGrant := .inr (.inr (.inr (.inr rfl)))
  have hclearing : Aspect.Names .clearing .clearWriteGrant := .inr rfl
  unfold execClearWriteGrant
  split
  · next k w ws _ =>
    split
    · have written : s.KeepsBut .clearWriteGrant ((s.clearWrite k w).setMark .ptr) := by
        unfold State.clearWrite
        split
        · exact s.releaseWrite_keeps hcells hclaims w .ptr
        · exact s.setMark_keeps hcells .ptr
      dsimp only
      split
      · exact written.trans (State.clearEnded_keeps _ k hstates hplaces hclearing)
      · refine written.trans fun a ha => ?_
        have same := a.kept_refl ((s.clearWrite k w).setMark .ptr)
        cases a with
        | clearing => exact absurd hclearing ha
        | _ => exact same
    · exact .refl s
  · exact .refl s

theorem execPainterTake_keepsBut : Step.Leads (s.KeepsBut .painterTake) (execPainterTake s) := by
  unfold execPainterTake
  split
  · next k rest _ =>
    split
    · next hgo =>
      have hidle : s.ptr.painter.clearJob = none := by
        rw [show s.ptr.painter = .idle by simpa using (Bool.and_eq_true_iff.1 hgo).2]
        rfl
      have taken : s.KeepsBut .painterTake
          { s.updSlot k (fun r => { r with queued := false }) with ptr := { s.ptr with queue := rest } } :=
        (s.updSlot_keeps k (f := fun r => { r with queued := false }) rfl).trans fun a _ => by
          have same := a.kept_refl (s.updSlot k fun r => { r with queued := false })
          cases a <;> exact same
      split
      · exact taken.trans (State.takeLive_keeps _ k hidle)
      · exact taken.trans (State.takeClear_keeps _ k (.inr (.inr (.inr (.inl rfl)))) (.inr (.inr (.inr (.inl rfl)))) (.inl rfl))
      · trivial
    · exact .refl s
  · exact .refl s

theorem execFrameStart_keepsBut : Step.Leads (s.KeepsBut .frameStart) (execFrameStart s) := by
  have started : s.KeepsBut .frameStart { s with dou := s.dou.frameStart s.atu.attrs } := fun a ha => by
    have same := a.kept_refl s
    cases a with
    | frame => exact absurd rfl ha
    | _ => exact same
  unfold execFrameStart
  split
  · exact .refl s
  · unfold State.oweSweep
    split
    · refine started.trans fun a _ => ?_
      have same := a.kept_refl ({ s with dou := s.dou.frameStart s.atu.attrs } : State)
      cases a <;> exact same
    · exact started.trans (State.raise_keeps _ _)

theorem execRowRead_keepsBut : Step.Leads (s.KeepsBut .rowRead) (execRowRead s) := by
  unfold execRowRead
  split
  · split
    · intro a _
      have same := a.kept_refl s
      cases a <;> exact same
    · exact .refl s
  · exact .refl s

theorem execSweep_keepsBut : Step.Leads (s.KeepsBut .sweep) (execSweep s) := by
  unfold execSweep
  split
  · exact s.ageAll_keeps.trans (State.joinGroup_keeps _ _)
  · exact .refl s

/-- Every command and event but power-on reset changes of the kinds of state those that it is named for. -/
theorem exec_keepsBut {i : Instr} (hi : i ≠ .powerOnReset) : Step.Leads (s.KeepsBut i) (exec i s) := by
  have link (h : linkEvent i = true) : Step.Leads (s.KeepsBut i) (exec i s) := exec_link_keepsBut s h
  cases i with
  | powerOnReset => exact absurd rfl hi
  | bind => exact Command.exec_keepsBut .bind s
  | amend => exact Command.exec_keepsBut .amend s
  | retire => exact Command.exec_keepsBut .retire s
  | lookup => exact Command.exec_keepsBut .lookup s
  | probe => exact Command.exec_keepsBut .probe s
  | tick => exact Command.exec_keepsBut .tick s
  | qtick => exact Command.exec_keepsBut .qtick s
  | refer => exact Command.exec_keepsBut .refer s
  | extremesClear => exact Command.exec_keepsBut .extremesClear s
  | stale => exact Command.exec_keepsBut .stale s
  | alerts => exact Command.exec_keepsBut .alerts s
  | panelOpen => exact Command.exec_keepsBut .panelOpen s
  | panelClose => exact Command.exec_keepsBut .panelClose s
  | panelFreeze => exact Command.exec_keepsBut .panelFreeze s
  | panelThaw => exact Command.exec_keepsBut .panelThaw s
  | panelMove => exact Command.exec_keepsBut .panelMove s
  | attrSet => exact Command.exec_keepsBut .attrSet s
  | schemeSet => exact Command.exec_keepsBut .schemeSet s
  | schemeSwap => exact Command.exec_keepsBut .schemeSwap s
  | text => exact Command.exec_keepsBut .text s
  | fill => exact Command.exec_keepsBut .fill s
  | showPage => exact Command.exec_keepsBut .showPage s
  | pattern => exact Command.exec_keepsBut .pattern s
  | glyphLoad => exact Command.exec_keepsBut .glyphLoad s
  | status => exact Command.exec_keepsBut .status s
  | config => exact Command.exec_keepsBut .config s
  | sync => exact Command.exec_keepsBut .sync s
  | vacateWriteGrant => exact execVacateWriteGrant_keepsBut s
  | textWriteGrant => exact execTextWriteGrant_keepsBut s
  | painterTake => exact execPainterTake_keepsBut s
  | paintWriteGrant => exact execPaintWriteGrant_keepsBut s
  | clearWriteGrant => exact execClearWriteGrant_keepsBut s
  | frameStart => exact execFrameStart_keepsBut s
  | rowRead => exact execRowRead_keepsBut s
  | sweep => exact execSweep_keepsBut s
  | _ => exact link rfl

end

/-- Settles O60: each kind of state is kept by what is not named for it. -/
theorem onlyNamedEventsChangeState : Obligations.OnlyNamedEventsChangeState := by
  intro i s t hexec hi
  have kept (a : Aspect) (ha : ¬ a.Names i) : a.Kept s t := (exec_keepsBut s hi).next hexec a ha
  refine ⟨kept .sticky, fun hpaint hclear htext hvacate => kept .cells ?_, fun hbind hmove hvacate hclear => kept .claims ?_,
    kept .attrs, fun hset hswap => kept .banks ?_, kept .glyphs, kept .frame, fun hrelease => kept .address ?_,
    kept .settings, fun hopen hclose hfreeze hthaw hmove => kept .panels ?_⟩
  · simp [Aspect.Names, hpaint, hclear, htext, hvacate]
  · simp [Aspect.Names, hbind, hmove, hvacate, hclear]
  · simp [Aspect.Names, hset, hswap]
  · simp [Aspect.Names, hrelease]
  · simp [Aspect.Names, hopen, hclose, hfreeze, hthaw, hmove]

end Sys2Proof.Machine
end

section
/-!
PROOFS, amending (R60 to R62): the checks in order, and what AMEND does to its record, the alert list and the field queue.
-/

namespace Sys2Proof.Machine

/-! ## The checks (R60) -/

/-- The checks of AMEND in the order of R60. -/
def amendChecks (s : State) (p : List Byte) : List (Bool × Result) :=
  ([(1023 < u16 p 0, .badArg)] : List (Bool × Result)) ++ settingsChecks p 2
    ++ ([((s.slot (u16 p 0)).state != .live, .notLive)] : List (Bool × Result))

/-- AMEND is refused by the first of its checks that fails, and has its settings stored when none does. -/
theorem amendCheck_eq (p : List Byte) (s : State) : amendCheck p s =
    match firstRefusal (amendChecks s p) with
    | some r => .error r
    | none => .ok (storedSettings p 2) := by
  simp only [amendCheck, settingsAt_eq, amendChecks, firstRefusal_append, firstRefusal_cons, firstRefusal_nil]
  by_cases hslot : 1023 < u16 p 0
  · simp [hslot]
  · cases firstRefusal (settingsChecks p 2) with
    | some r => simp [hslot]
    | none => by_cases hlive : (s.slot (u16 p 0)).state = .live <;> simp [hslot, hlive, State.isLive]

/-! ## Band evaluation of a slot (R86, R87) -/

theorem or_no_flag (flags : Byte) : flags ||| 0 = flags := BitVec.or_zero

/-- What band evaluation writes besides the record: at a crossing the alert list, or ALERT_LOST. -/
theorem State.evaluateBand_frame (s : State) (k : Nat) :
    let r := s.slot k
    let entry := crossingEntry k r
    s.evaluateBand k = { s with
      ftb := { s.ftb with slots := (s.evaluateBand k).ftb.slots }
      alerts := if r.crosses then entered s.alerts entry else s.alerts
      stu := { s.stu with sticky := s.stu.sticky ||| (if r.crosses ∧ lost s.alerts entry then 0x40 else 0) } } := by
  rw [State.evaluateBand_eq]
  cases hcrosses : (s.slot k).crosses with
  | true =>
    simp only [if_true, true_and, State.enterAlert_eq, hcrosses]
    rfl
  | false =>
    simp only [hcrosses, Bool.false_eq_true, false_and, if_false, or_no_flag]
    rfl

/-! ## AMEND -/

/-- A group of one slot. -/
theorem ascending_singleton {k : Nat} (hk : k < 1024) : ascending [k] = [k] := by
  have hcontains : (fun j => [k].contains j) = (fun j => j == k) := by
    funext j
    simp [beq_eq_decide]
  rw [ascending, hcontains, allSlots, List.filter_beq, List.count_eq_one_of_mem List.nodup_range (List.mem_range.2 hk)]
  rfl

section
variable (s : State) (k : Nat) (settings : Settings)

/-- The state with the settings replaced and the band evaluated, but the record not yet due. -/
def State.resettled : State := (s.updSlot k (fun r => { r with settings := settings })).evaluateBand k

theorem State.resettled_slot (j : Nat) : (s.resettled k settings).slot j =
    if j = k then ({ s.slot k with settings := settings } : Record).evaluated s.agu.alertFrames else s.slot j := by
  rw [State.resettled, (s.updSlot_evaluateBand_changes k _).slot]
  by_cases hj : j = k <;> simp [hj]

theorem State.resettled_frame :
    let r := { s.slot k with settings := settings }
    let entry := crossingEntry k r
    s.resettled k settings = { s with
      ftb := { s.ftb with slots := (s.resettled k settings).ftb.slots }
      alerts := if r.crosses then entered s.alerts entry else s.alerts
      stu := { s.stu with sticky := s.stu.sticky ||| (if r.crosses ∧ lost s.alerts entry then 0x40 else 0) } } := by
  have frame := (s.updSlot k (fun r => { r with settings := settings })).evaluateBand_frame k
  rw [State.slot_updSlot, if_pos rfl] at frame
  exact frame

/-- Band evaluation moves no record in or out of a FROZEN panel. -/
theorem State.resettled_held :
    ((s.resettled k settings).isLive k && (s.resettled k settings).isFrozen ((s.resettled k settings).slot k).panel)
      = (s.isLive k && s.isFrozen (s.slot k).panel) := by
  have panels : (s.resettled k settings).panels = s.panels := by rw [State.resettled_frame]
  rw [State.isLive, State.isFrozen, State.panel, panels, State.resettled_slot, if_pos rfl]
  rfl

variable {k} (hk : k < 1024)
include hk

theorem amendApply_slot (j : Nat) : (amendApply k settings s).slot j =
    if j = k then s.madeDue k (({ s.slot k with settings := settings } : Record).evaluated s.agu.alertFrames)
    else s.slot j := by
  rw [show amendApply k settings s = (s.resettled k settings).becomeDue k from rfl, (State.becomeDue_spec _ k).1,
    State.resettled_held, State.resettled_slot, State.resettled_slot]
  by_cases hj : j = k
  · rw [if_pos hj, if_pos hj, if_pos rfl]
    simp only [State.madeDue, State.joins, State.waits, Record.evaluated, hk, decide_true, Bool.true_and]
    cases (s.slot k).queued <;> simp
  · rw [if_neg hj, if_neg hj, if_neg hj]

/-- What else AMEND touches: the alert list and ALERT_LOST at a crossing, and the field queue. -/
theorem amendApply_frame :
    let r := { s.slot k with settings := settings }
    let entry := crossingEntry k r
    amendApply k settings s = { s with
      ftb := { s.ftb with slots := (amendApply k settings s).ftb.slots }
      alerts := if r.crosses then entered s.alerts entry else s.alerts
      stu := { s.stu with sticky := s.stu.sticky ||| (if r.crosses ∧ lost s.alerts entry then 0x40 else 0) }
      ptr := { s.ptr with queue := s.queueWith [k] } } := by
  have hqueued : ((s.resettled k settings).slot k).queued = (s.slot k).queued := by
    rw [State.resettled_slot, if_pos rfl]
    rfl
  have hqueue : (if (s.slot k).queued || (s.isLive k && s.isFrozen (s.slot k).panel) then s.ptr.queue else s.ptr.queue ++ [k])
      = s.queueWith [k] := by
    simp only [State.queueWith, ascending_singleton hk, List.filter_singleton, State.joins, hk, decide_true, Bool.true_and]
    cases (s.slot k).queued <;> cases s.isLive k && s.isFrozen (s.slot k).panel <;> simp
  have due := (State.becomeDue_spec (s.resettled k settings) k).2
  simp only [State.resettled_held, hqueued] at due
  have frame := s.resettled_frame k settings
  have hptr : (s.resettled k settings).ptr = s.ptr := by rw [frame]
  rw [hptr, hqueue] at due
  dsimp only at frame ⊢
  rw [show amendApply k settings s = (s.resettled k settings).becomeDue k from rfl]
  generalize (s.resettled k settings).becomeDue k = t at due ⊢
  rw [due, frame]

end

/-- Settles O20: the checks in order, then what AMEND leaves. -/
theorem amendReplacesSettings : Obligations.AmendReplacesSettings := by
  intro s m reply ready hlength
  have hlen : Command.amend.lengthOk m.params = true := by simp [Command.lengthOk, hlength]
  have hchecks : amendChecks (s.taken reply) m.params = amendChecks s m.params := rfl
  have body : Command.amend.body m (s.taken reply) =
      match firstRefusal (amendChecks s m.params) with
      | some r => .refuse r
      | none => .done (amendApply (u16 m.params 0) (storedSettings m.params 2) (s.taken reply)) [] := by
    rw [show Command.amend.body m (s.taken reply) = amendBody m (s.taken reply) from rfl, amendBody, amendCheck_eq, hchecks]
    cases firstRefusal (amendChecks s m.params) <;> rfl
  refine ⟨fun r (hr : firstRefusal (amendChecks s m.params) = some r) => ?_,
    fun (hnone : firstRefusal (amendChecks s m.params) = none) => ?_⟩
  · exact exec_refused ready hlen (by rw [body, hr])
  · have hk : u16 m.params 0 < 1024 := by
      have := (firstRefusal_eq_none_iff _).1 hnone (decide (1023 < u16 m.params 0), .badArg) (by simp [amendChecks])
      exact Nat.lt_succ_of_le (Nat.not_lt.1 (of_decide_eq_false this))
    refine ⟨amendApply (u16 m.params 0) (storedSettings m.params 2) (s.taken reply), ?_, ?_, fun j hj => ?_, ?_⟩
    · exact exec_done ready hlen (by rw [body, hnone]) (amendApply_recordsOnly _ _ _).lki
    · exact (amendApply_slot (s.taken reply) _ hk _).trans (if_pos rfl)
    · exact (amendApply_slot (s.taken reply) _ hk j).trans (if_neg hj)
    · exact amendApply_frame (s.taken reply) _ hk

end Sys2Proof.Machine
end

section
/-!
PROOFS, PANEL_CLOSE (R115): the retirements of a panel's records one after the other, whatever the chains hold.
-/

namespace Sys2Proof.Machine

/-- Unlinking a slot, and the hand-over with it, moves guard state alone among the fields of any record (R35, R41). -/
theorem State.unlink_view {β : Type} {view : Record → β}
    (hview : ∀ (r : Record) v n, view { r with suspectValue := v, holdCount := n } = view r) (s : State) (k j : Nat) :
    view ((s.unlink k).slot j) = view (s.slot j) := by
  have guarded (t : State) (i : Nat) (v : Option Int) (n : Nat) :
      view ((t.updSlot i (fun x => { x with suspectValue := v, holdCount := n })).slot j) = view (t.slot j) := by
    rw [State.slot_updSlot]
    split
    · next hj => rw [hview, hj]
    · rfl
  simp only [State.unlink]
  split
  · rfl
  · split
    · split
      · exact guarded _ _ _ _
      · exact (guarded _ _ _ _).trans (guarded _ _ _ _)
    · rfl

section
variable (s : State) (k : Nat)

theorem State.withdraw_state (j : Nat) :
    ((s.withdraw k).slot j).state = if j = k then .retiring else (s.slot j).state := by
  have base : (s.withdraw k).slot j = ((s.unlink k).updSlot k Record.withdrawn).slot j := rfl
  rw [base, State.slot_updSlot]
  split
  · rfl
  · exact State.unlink_view (view := Record.state) (fun _ _ _ => rfl) s k j

theorem State.withdraw_queued (j : Nat) : ((s.withdraw k).slot j).queued = (s.slot j).queued := by
  have unlinked := State.unlink_view (view := Record.queued) (fun _ _ _ => rfl) s k
  have base : (s.withdraw k).slot j = ((s.unlink k).updSlot k Record.withdrawn).slot j := rfl
  rw [base, State.slot_updSlot]
  split
  · next hj => rw [hj]; exact unlinked k
  · exact unlinked j

theorem State.withdraw_frame : (s.withdraw k).alerts = s.alerts.filter (fun e => e.slot != k) ∧ (s.withdraw k).ptr = s.ptr := by
  unfold State.withdraw
  rw [s.unlink_frame k]
  exact ⟨rfl, rfl⟩

/-- A retired record is RETIRING, every other slot in the state it was in (R63). -/
theorem State.retire_state (j : Nat) : ((s.retire k).slot j).state = if j = k then .retiring else (s.slot j).state := by
  rw [State.retire_eq]
  split
  · exact s.withdraw_state k j
  · rw [State.slot_enqueue]
    split
    · next hj => exact (s.withdraw_state k k).trans (if_pos rfl)
    · next hj => exact (s.withdraw_state k j).trans (if_neg hj)

theorem State.retire_queued {j : Nat} (hj : j ≠ k) : ((s.retire k).slot j).queued = (s.slot j).queued := by
  rw [State.retire_eq]
  split
  · exact s.withdraw_queued k j
  · rw [State.slot_enqueue, if_neg hj]
    exact s.withdraw_queued k j

/-- The alert list and the field queue after a retirement (R63). -/
theorem State.retire_lists : (s.retire k).alerts = s.alerts.filter (fun e => e.slot != k)
    ∧ (s.retire k).ptr = { s.ptr with queue := s.ptr.queue ++ [k].filter (fun j => !(s.slot j).queued) } := by
  obtain ⟨halerts, hptr⟩ := s.withdraw_frame k
  rw [State.retire_eq, s.withdraw_queued k k]
  cases hqueued : (s.slot k).queued with
  | true =>
    rw [if_pos rfl, List.filter_cons_of_neg (by simp [hqueued]), List.filter_nil, List.append_nil]
    exact ⟨halerts, hptr⟩
  | false =>
    rw [if_neg Bool.false_ne_true, List.filter_cons_of_pos (by simp [hqueued]), List.filter_nil, ← hptr]
    exact ⟨halerts, rfl⟩

end

/-- Records retired one after the other: their states, the alert list and the field queue (R115). -/
theorem foldl_retire {l : List Nat} (hl : l.Nodup) (s : State) :
    (∀ j, ((l.foldl State.retire s).slot j).state = if j ∈ l then .retiring else (s.slot j).state)
    ∧ (l.foldl State.retire s).alerts = s.alerts.filter (fun e => e.slot ∉ l)
    ∧ (l.foldl State.retire s).ptr
      = { s.ptr with queue := s.ptr.queue ++ l.filter (fun k => !(s.slot k).queued) } := by
  induction l generalizing s with
  | nil => simp
  | cons k rest ih =>
    obtain ⟨hk, hrest⟩ := List.nodup_cons.1 hl
    obtain ⟨hstate, halerts, hptr⟩ := ih hrest (s.retire k)
    obtain ⟨hfirst, hfirstPtr⟩ := s.retire_lists k
    have unqueued : rest.filter (fun j => !((s.retire k).slot j).queued) = rest.filter (fun j => !(s.slot j).queued) :=
      List.filter_congr fun j hj => by rw [s.retire_queued k fun heq => hk (heq ▸ hj)]
    refine ⟨fun j => ?_, ?_, ?_⟩
    · rw [List.foldl_cons, hstate, State.retire_state]
      by_cases hj : j ∈ rest <;> by_cases hjk : j = k <;> simp [hj, hjk]
    · rw [List.foldl_cons, halerts, hfirst, List.filter_filter]
      refine List.filter_congr fun e _ => ?_
      by_cases hslot : e.slot = k <;> simp [hslot]
    · rw [List.foldl_cons, hptr, hfirstPtr, unqueued]
      simp only [List.append_assoc, ← List.filter_append, List.singleton_append]

theorem State.panelRecords_nodup (s : State) (p : Nat) : (s.panelRecords p).Nodup := List.nodup_range.filter _

/-- Settles O33: the body's checks, then the retirements and the closing of the panel. -/
theorem panelCloseRetiresRecords : Obligations.PanelCloseRetiresRecords := by
  intro s p reply ready
  have body : Command.panelClose.body ⟨0x31, [p]⟩ (s.taken reply) =
      if 31 < p.toNat then .refuse .badArg
      else if (s.panel p.toNat).isNone then .refuse .noPanel
      else .done (panelClose p.toNat (s.taken reply)) [] := rfl
  refine ⟨fun hbad => exec_refused ready rfl (by rw [body, if_pos hbad]),
    fun hp hnone => exec_refused ready rfl (by rw [body, if_neg (Nat.not_lt.2 hp), hnone]; rfl),
    fun hp hsome => ⟨panelClose p.toNat (s.taken reply), ?_, rfl, fun q => ?_, ?_⟩⟩
  · exact exec_done ready rfl (by rw [body, if_neg (Nat.not_lt.2 hp), if_neg (by simpa using hsome)]) (panelClose_lki _ _)
  · have retired : (((s.taken reply).panelRecords p.toNat).foldl State.retire (s.taken reply)).panels = s.panels :=
      State.Keeps.foldl (P := fun a => a.Names .retire) (fun t k => t.retire_keeps k (.inr (.inl rfl))) _ (s.taken reply) .panels
        (by simp [Aspect.Names])
    rw [panelClose, State.panel_setPanel, State.panel_of_panels retired]
  · obtain ⟨hstate, halerts, hptr⟩ := foldl_retire ((s.taken reply).panelRecords_nodup p.toNat) (s.taken reply)
    have claims : (panelClose p.toNat (s.taken reply)).ftb.claims = s.ftb.claims :=
      panelClose_keeps (P := fun a => a.Names .panelClose) (s.taken reply) p.toNat (.inr (.inr (.inl rfl))) (.inr (.inl rfl))
        .claims (by simp [Aspect.Names])
    rw [panelClose] at claims ⊢
    generalize ((s.taken reply).panelRecords p.toNat).foldl State.retire (s.taken reply) = u at hstate halerts hptr claims ⊢
    exact ⟨hstate, halerts, hptr, claims⟩

end Sys2Proof.Machine
end

section
/-!
PROOFS, the Claim Map as every step leaves it (R47, R112, R119 to R122): spans as cells, what a step that claims nothing leaves, a
record placed on unclaimed ground, and the moves of a panel's records one after the other.
-/

namespace Sys2Proof.Machine

/-! ## Spans -/

section
variable {page row col w page' row' col' w' c : Nat}

theorem mem_spanCells : c ∈ spanCells page row col w ↔ ∃ i < w, c = cellNumber page row (col + i) := by
  simp only [spanCells, List.mem_map, List.mem_range, eq_comm]

/-- Spans with a common cell lie in one row of one page, with overlapping columns. -/
theorem spanCells_overlap (hrow : row < 50) (hcol : col + w ≤ 132) (hrow' : row' < 50) (hcol' : col' + w' ≤ 132)
    (h : c ∈ spanCells page row col w) (h' : c ∈ spanCells page' row' col' w') :
    page = page' ∧ row = row' ∧ col < col' + w' ∧ col' < col + w := by
  obtain ⟨i, hi, rfl⟩ := mem_spanCells.1 h
  obtain ⟨j, hj, heq⟩ := mem_spanCells.1 h'
  simp only [cellNumber] at heq
  omega

/-- Spans of one row with overlapping columns have a common cell. -/
theorem spanCells_meet (hw : 0 < w) (hw' : 0 < w') (hcol : col < col' + w') (hcol' : col' < col + w) :
    ∃ c, c ∈ spanCells page row col w ∧ c ∈ spanCells page row col' w' :=
  ⟨cellNumber page row (max col col'), mem_spanCells.2 ⟨max col col' - col, by omega, congrArg _ (by omega)⟩,
    mem_spanCells.2 ⟨max col col' - col', by omega, congrArg _ (by omega)⟩⟩

end

/-- The placement of a record, field by field. -/
theorem Record.placement_eq_iff {r x : Record} : r.placement = x.placement ↔
    r.panel = x.panel ∧ r.rowOffset = x.rowOffset ∧ r.colOffset = x.colOffset ∧ r.page = x.page ∧ r.row = x.row ∧ r.col = x.col
      ∧ r.width = x.width := by
  simp [Record.placement]

theorem Record.span_of_placement {r x : Record} (h : r.placement = x.placement) : r.span = x.span := by
  obtain ⟨_, _, _, hpage, hrow, hcol, hwidth⟩ := Record.placement_eq_iff.1 h
  rw [Record.span, Record.span, hpage, hrow, hcol, hwidth]

/-- A panel's page, origin and size. -/
def Panel.rectangle (e : Panel) : Nat × Nat × Nat × Nat × Nat := (e.page, e.row, e.col, e.height, e.width)

theorem Panel.rectangle_eq_iff {e x : Panel} : e.rectangle = x.rectangle ↔
    e.page = x.page ∧ e.row = x.row ∧ e.col = x.col ∧ e.height = x.height ∧ e.width = x.width := by
  simp [Panel.rectangle]

/-! ## Claims by LIVE records -/

section
variable {s : State} {c : Nat}

theorem State.claimedLive_eq_false_iff : s.claimedLive c = false ↔ ∀ k, s.claim c = some k → s.isLive k = false := by
  unfold State.claimedLive
  split
  · next k hk => simp [hk]
  · next hnone => simp [hnone]

theorem State.claimedElsewhere_eq_false_iff {p : Nat} : s.claimedElsewhere p c = false ↔
    ∀ k, s.claim c = some k → s.isLive k = true → (s.slot k).panel = p := by
  unfold State.claimedElsewhere
  split
  · next k hk => simp [hk]
  · next hnone => simp [hnone]

end

theorem Painter.clearJob_eq_some {painter : Painter} {k : Nat} {ws : List CellWrite} :
    painter.clearJob = some (k, ws) ↔ painter = .clearing k ws := by
  cases painter <;> simp [Painter.clearJob]

/-! ## The sound Claim Map in parts -/

/-- The Claim Map against the records and their panels, with the records `l` still to be moved. -/
structure State.PlacesSound (s : State) (l : List Nat) : Prop where
  owner : ∀ c k, s.claim c = some k → (s.slot k).state ≠ .free ∧ c ∈ (s.slot k).span
  full : ∀ k, s.isLive k = true → k ∉ l → ∀ c ∈ (s.slot k).span, s.claim c = some k
  anchored : ∀ k e, s.isLive k = true → k ∉ l → s.panel (s.slot k).panel = some e →
    (s.slot k).page = e.page ∧ (s.slot k).row = e.row + (s.slot k).rowOffset ∧ (s.slot k).col = e.col + (s.slot k).colOffset
  inPanel : ∀ k e, s.isLive k = true → s.panel (s.slot k).panel = some e →
    (s.slot k).rowOffset < e.height ∧ (s.slot k).colOffset + (s.slot k).width ≤ e.width
  inPage : ∀ k, (s.slot k).state ≠ .free →
    (s.slot k).page ≤ 3 ∧ (s.slot k).row < 50 ∧ (s.slot k).col + (s.slot k).width ≤ 132
  apart : ∀ j k, s.isLive j = true → s.isLive k = true → j ≠ k → (s.slot j).panel = (s.slot k).panel →
    (s.slot j).rowOffset = (s.slot k).rowOffset →
    (s.slot j).colOffset + (s.slot j).width ≤ (s.slot k).colOffset
      ∨ (s.slot k).colOffset + (s.slot k).width ≤ (s.slot j).colOffset
  clearing : ∀ k ws c, s.ptr.painter.clearJob = some (k, ws) → s.claim c = some k → c ∈ ws.map CellWrite.cell

/-- Records of a FROZEN panel that may go to its new place: no LIVE record of another panel claims a cell there (R119). -/
structure State.AwaitsMove (s : State) (p : Nat) (e : Panel) (l : List Nat) : Prop where
  nodup : l.Nodup
  panel : s.panel p = some e
  frozen : e.frozen = true
  live : ∀ j ∈ l, s.isLive j = true
  housed : ∀ j ∈ l, (s.slot j).panel = p
  unclaimed : ∀ j ∈ l, ∀ c ∈ (s.slot j).spanAt e.page e.row e.col, s.claimedElsewhere p c = false

theorem Mdc.move_eq_some {mdc : Mdc} {p k : Nat} {ws : List CellWrite} {rest : List Nat} :
    mdc.move = some (p, k, ws, rest) ↔ ∃ m a, mdc = .moving m p a k ws rest := by
  cases mdc <;> simp [Mdc.move]

theorem State.unmoved_of_move {s : State} {p k : Nat} {ws : List CellWrite} {rest : List Nat}
    (h : s.mdc.move = some (p, k, ws, rest)) : s.unmoved = k :: rest := by
  obtain ⟨m, a, hmdc⟩ := Mdc.move_eq_some.1 h
  simp only [State.unmoved, hmdc]

theorem State.unmoved_of_move_none {s : State} (h : s.mdc.move = none) : s.unmoved = [] := by
  unfold State.unmoved
  split
  · next hmdc => rw [hmdc] at h; cases h
  · rfl

theorem State.unmoved_congr {s t : State} (h : t.mdc.move = s.mdc.move) : t.unmoved = s.unmoved := by
  cases hmove : s.mdc.move with
  | none => rw [State.unmoved_of_move_none hmove, State.unmoved_of_move_none (h.trans hmove)]
  | some x => rw [State.unmoved_of_move hmove, State.unmoved_of_move (h.trans hmove)]

/-- The sound Claim Map, with what a PANEL_MOVE in execution adds to it. -/
theorem State.claimsSound_iff {s : State} : s.ClaimsSound ↔ s.PlacesSound s.unmoved
    ∧ ∀ p k ws rest, s.mdc.move = some (p, k, ws, rest) →
      (∀ c, s.claim c = some k → c ∈ ws.map CellWrite.cell) ∧ ws ≠ [] ∧ ∃ e, s.AwaitsMove p e (k :: rest) := by
  constructor
  · intro h
    refine ⟨{ h with clearing := fun k ws c hjob => h.clearing k ws c (Painter.clearJob_eq_some.1 hjob) },
      fun p k ws rest hmove => ?_⟩
    obtain ⟨m, a, hmdc⟩ := Mdc.move_eq_some.1 hmove
    obtain ⟨hws, hnodup, e, hpanel, hfrozen, hrecords⟩ := h.moving m p a k ws rest hmdc
    exact ⟨fun c => h.vacating m p a k ws rest c hmdc, hws, e, {
      nodup := hnodup
      panel := hpanel
      frozen := hfrozen
      live := fun j hj => (hrecords j hj).1
      housed := fun j hj => (hrecords j hj).2.1
      unclaimed := fun j hj => (hrecords j hj).2.2 }⟩
  · intro ⟨places, moving⟩
    refine { places with clearing := fun k ws c hjob => ?_, vacating := fun m p a k ws rest c hmdc => ?_,
                         moving := fun m p a k ws rest hmdc => ?_ }
    · exact places.clearing k ws c (Painter.clearJob_eq_some.2 hjob)
    · exact (moving p k ws rest (Mdc.move_eq_some.2 ⟨m, a, hmdc⟩)).1 c
    · obtain ⟨_, hws, e, await⟩ := moving p k ws rest (Mdc.move_eq_some.2 ⟨m, a, hmdc⟩)
      exact ⟨hws, await.nodup, e, await.panel, await.frozen, fun j hj =>
        ⟨await.live j hj, await.housed j hj, await.unclaimed j hj⟩⟩

theorem State.PlacesSound.claimsSound {s : State} (h : s.PlacesSound []) (hmove : s.mdc.move = none) : s.ClaimsSound :=
  State.claimsSound_iff.2 ⟨State.unmoved_of_move_none hmove ▸ h, fun _ _ _ _ heq => by rw [hmove] at heq; cases heq⟩

/-! ## What a step that claims nothing leaves -/

/-- `t` after a step that claims no cell, binds and moves no record, and takes no claim from a LIVE record but of `l`. -/
structure State.Recedes (s t : State) (l : List Nat) : Prop where
  place : ∀ k, (t.slot k).state ≠ .free → (s.slot k).state ≠ .free ∧ (t.slot k).placement = (s.slot k).placement
  live : ∀ k, t.isLive k = true → s.isLive k = true
  claimed : ∀ c k, t.claim c = some k → s.claim c = some k ∧ (t.slot k).state ≠ .free
  kept : ∀ c k, s.claim c = some k → t.isLive k = true → k ∉ l → t.claim c = some k
  panel : ∀ k e, t.isLive k = true → t.panel (t.slot k).panel = some e →
    ∃ x, s.panel (t.slot k).panel = some x ∧ e.rectangle = x.rectangle

section
variable {s t : State} {l : List Nat}

theorem State.PlacesSound.recede (h : s.PlacesSound l) (r : s.Recedes t l)
    (hclearing : ∀ k ws c, t.ptr.painter.clearJob = some (k, ws) → t.claim c = some k → c ∈ ws.map CellWrite.cell) :
    t.PlacesSound l where
  owner c k hc := by
    obtain ⟨hs, hstate⟩ := r.claimed c k hc
    exact ⟨hstate, Record.span_of_placement (r.place k hstate).2 ▸ (h.owner c k hs).2⟩
  full k live hk c hc := by
    rw [Record.span_of_placement (r.place k (State.not_free_of_live live)).2] at hc
    exact r.kept c k (h.full k (r.live k live) hk c hc) live hk
  anchored k e live hk hpanel := by
    obtain ⟨x, hx, hrect⟩ := r.panel k e live hpanel
    obtain ⟨hpage, hrow, hcol, _⟩ := Panel.rectangle_eq_iff.1 hrect
    obtain ⟨hp, hro, hco, hpg, hr, hc, _⟩ := Record.placement_eq_iff.1 (r.place k (State.not_free_of_live live)).2
    rw [hp] at hx
    rw [hpage, hrow, hcol, hro, hco, hpg, hr, hc]
    exact h.anchored k x (r.live k live) hk hx
  inPanel k e live hpanel := by
    obtain ⟨x, hx, hrect⟩ := r.panel k e live hpanel
    obtain ⟨_, _, _, hheight, hwidth⟩ := Panel.rectangle_eq_iff.1 hrect
    obtain ⟨hp, hro, hco, _, _, _, hw⟩ := Record.placement_eq_iff.1 (r.place k (State.not_free_of_live live)).2
    rw [hp] at hx
    rw [hheight, hwidth, hro, hco, hw]
    exact h.inPanel k x (r.live k live) hx
  inPage k hstate := by
    obtain ⟨hfree, hplace⟩ := r.place k hstate
    obtain ⟨_, _, _, hpg, hr, hc, hw⟩ := Record.placement_eq_iff.1 hplace
    rw [hpg, hr, hc, hw]
    exact h.inPage k hfree
  apart j k hj hk hne := by
    obtain ⟨hp, hro, hco, _, _, _, hw⟩ := Record.placement_eq_iff.1 (r.place j (State.not_free_of_live hj)).2
    obtain ⟨hp', hro', hco', _, _, _, hw'⟩ := Record.placement_eq_iff.1 (r.place k (State.not_free_of_live hk)).2
    rw [hp, hro, hco, hw, hp', hro', hco', hw']
    exact h.apart j k (r.live j hj) (r.live k hk) hne
  clearing := hclearing

/-- Records still wait for their move after a step that claims nothing, while they stay LIVE and their panel as it is. -/
theorem State.AwaitsMove.recede {p : Nat} {e : Panel} {l' : List Nat} (h : s.AwaitsMove p e l) (r : s.Recedes t l')
    (hlive : ∀ j ∈ l, t.isLive j = true) (hpanel : t.panel p = s.panel p) : t.AwaitsMove p e l where
  nodup := h.nodup
  panel := hpanel.trans h.panel
  frozen := h.frozen
  live := hlive
  housed j hj := by
    rw [(Record.placement_eq_iff.1 (r.place j (State.not_free_of_live (hlive j hj))).2).1]
    exact h.housed j hj
  unclaimed j hj c hc := by
    obtain ⟨_, hro, hco, _, _, _, hw⟩ := Record.placement_eq_iff.1 (r.place j (State.not_free_of_live (hlive j hj))).2
    rw [Record.spanAt, hro, hco, hw] at hc
    refine State.claimedElsewhere_eq_false_iff.2 fun k hk live => ?_
    rw [(Record.placement_eq_iff.1 (r.place k (State.not_free_of_live live)).2).1]
    exact State.claimedElsewhere_eq_false_iff.1 (h.unclaimed j hj c hc) k (r.claimed c k hk).1 (r.live k live)

theorem State.ClaimsSound.recede (h : s.ClaimsSound) (r : s.Recedes t s.unmoved)
    (hclearing : ∀ k ws c, t.ptr.painter.clearJob = some (k, ws) → t.claim c = some k → c ∈ ws.map CellWrite.cell)
    (hmove : t.mdc.move = s.mdc.move) (hlive : ∀ j ∈ s.unmoved, t.isLive j = true)
    (hpanels : ∀ x, s.mdc.move = some x → t.panels = s.panels) : t.ClaimsSound := by
  obtain ⟨places, moving⟩ := State.claimsSound_iff.1 h
  refine State.claimsSound_iff.2 ⟨State.unmoved_congr hmove ▸ places.recede r hclearing, fun p k ws rest heq => ?_⟩
  rw [hmove] at heq
  obtain ⟨hvacating, hws, e, await⟩ := moving p k ws rest heq
  rw [State.unmoved_of_move heq] at hlive
  exact ⟨fun c hc => hvacating c (r.claimed c k hc).1, hws, e,
    await.recede r hlive (State.panel_of_panels (hpanels _ heq) p)⟩

/-- The records still to be moved are LIVE (R120). -/
theorem State.ClaimsSound.unmoved_live (h : s.ClaimsSound) {j : Nat} (hj : j ∈ s.unmoved) : s.isLive j = true := by
  cases hmove : s.mdc.move with
  | none =>
    rw [State.unmoved_of_move_none hmove] at hj
    cases hj
  | some x =>
    obtain ⟨p, k, ws, rest⟩ := x
    rw [State.unmoved_of_move hmove] at hj
    obtain ⟨_, _, _, await⟩ := (State.claimsSound_iff.1 h).2 p k ws rest hmove
    exact await.live j hj

end

end Sys2Proof.Machine
end

section
/-!
PROOFS, the Claim Map is kept sound (O56): a record placed on unclaimed ground, a panel's records moved one after the other, the cells
released by grants, and every command and event.
-/

namespace Sys2Proof.Machine

/-! ## A record placed on unclaimed ground (R54, R55, R120) -/

/-- `t` is `s` with the record `k` placed in panel `e` and all its span claimed for it. -/
structure State.Placed (s t : State) (k : Nat) (e : Panel) : Prop where
  others : ∀ j, j ≠ k → (t.slot j).place = (s.slot j).place
  claims : ∀ c, t.claim c = if c ∈ (t.slot k).span then some k else s.claim c
  panels : t.panels = s.panels
  clearJob : t.ptr.painter.clearJob = s.ptr.painter.clearJob
  live : t.isLive k = true
  panel : s.panel (t.slot k).panel = some e
  anchored : (t.slot k).page = e.page ∧ (t.slot k).row = e.row + (t.slot k).rowOffset ∧ (t.slot k).col = e.col + (t.slot k).colOffset
  inPanel : (t.slot k).rowOffset < e.height ∧ (t.slot k).colOffset + (t.slot k).width ≤ e.width

section
variable {s t : State} {k : Nat} {e : Panel} {l : List Nat} (p : s.Placed t k e)
include p

theorem State.Placed.isLive {j : Nat} (hj : j ≠ k) : t.isLive j = s.isLive j := by
  rw [State.isLive, State.isLive, (Record.place_eq_iff.1 (p.others j hj)).1]

theorem State.Placed.inPage (inside : e.Inside) :
    (t.slot k).page ≤ 3 ∧ (t.slot k).row < 50 ∧ (t.slot k).col + (t.slot k).width ≤ 132 := by
  obtain ⟨hpage, hheight, hwidth⟩ := inside
  obtain ⟨hpg, hrow, hcol⟩ := p.anchored
  obtain ⟨hrowOffset, hcolOffset⟩ := p.inPanel
  omega

/-- A record placed leaves the Claim Map sound when no cell named it before, no LIVE record but one still to be moved claimed a cell
of its new span, and it lies apart from the other LIVE records of its panel. -/
theorem State.PlacesSound.placed {rest : List Nat} (h : s.PlacesSound l) (inside : e.Inside) (hl : ∀ j, j ≠ k → j ∉ rest → j ∉ l)
    (hjob : ∀ ws, s.ptr.painter.clearJob ≠ some (k, ws)) (hunclaimed : ∀ c, s.claim c ≠ some k)
    (hground : ∀ c ∈ (t.slot k).span, ∀ j, s.claim c = some j → s.isLive j = true → j ≠ k → j ∈ rest)
    (hapart : ∀ j, s.isLive j = true → j ≠ k → (s.slot j).panel = (t.slot k).panel →
      (s.slot j).rowOffset = (t.slot k).rowOffset → (s.slot j).colOffset + (s.slot j).width ≤ (t.slot k).colOffset
        ∨ (t.slot k).colOffset + (t.slot k).width ≤ (s.slot j).colOffset) :
    t.PlacesSound rest := by
  have hpanel (q : Nat) : t.panel q = s.panel q := State.panel_of_panels p.panels q
  have claimed {c j : Nat} (hj : j ≠ k) (hc : t.claim c = some j) : s.claim c = some j := by
    rw [p.claims] at hc
    split at hc
    · exact absurd (Option.some.inj hc).symm hj
    · exact hc
  have same {j : Nat} (hj : j ≠ k) := Record.place_eq_iff.1 (p.others j hj)
  refine ⟨fun c j hc => ?_, fun j live hj c hc => ?_, fun j x live hj hx => ?_, fun j x live hx => ?_, fun j hstate => ?_,
    fun i j hi hj hne => ?_, fun j ws c hj hc => ?_⟩
  · by_cases hjk : j = k
    · subst hjk
      rw [p.claims] at hc
      split at hc
      · next hspan => exact ⟨State.not_free_of_live p.live, hspan⟩
      · exact absurd hc (hunclaimed c)
    · rw [(same hjk).1, Record.span_of_placement (same hjk).2]
      exact h.owner c j (claimed hjk hc)
  · rw [p.claims]
    by_cases hjk : j = k
    · subst hjk
      rw [if_pos hc]
    · rw [p.isLive hjk] at live
      rw [Record.span_of_placement (same hjk).2] at hc
      have hclaim := h.full j live (hl j hjk hj) c hc
      rw [if_neg fun hspan => hj (hground c hspan j hclaim live hjk), hclaim]
  · rw [hpanel] at hx
    by_cases hjk : j = k
    · subst hjk
      rw [p.panel] at hx
      exact Option.some.inj hx ▸ p.anchored
    · rw [p.isLive hjk] at live
      obtain ⟨hp, hro, hco, hpg, hr, hc, _⟩ := Record.placement_eq_iff.1 (same hjk).2
      rw [hp] at hx
      rw [hro, hco, hpg, hr, hc]
      exact h.anchored j x live (hl j hjk hj) hx
  · rw [hpanel] at hx
    by_cases hjk : j = k
    · subst hjk
      rw [p.panel] at hx
      exact Option.some.inj hx ▸ p.inPanel
    · rw [p.isLive hjk] at live
      obtain ⟨hp, hro, hco, _, _, _, hw⟩ := Record.placement_eq_iff.1 (same hjk).2
      rw [hp] at hx
      rw [hro, hco, hw]
      exact h.inPanel j x live hx
  · by_cases hjk : j = k
    · exact hjk ▸ p.inPage inside
    · obtain ⟨_, _, _, hpg, hr, hc, hw⟩ := Record.placement_eq_iff.1 (same hjk).2
      rw [hpg, hr, hc, hw]
      exact h.inPage j ((same hjk).1 ▸ hstate)
  · have apart {j : Nat} (hj : t.isLive j = true) (hjk : j ≠ k) (hp : (t.slot j).panel = (t.slot k).panel)
        (hr : (t.slot j).rowOffset = (t.slot k).rowOffset) :
        (t.slot j).colOffset + (t.slot j).width ≤ (t.slot k).colOffset
          ∨ (t.slot k).colOffset + (t.slot k).width ≤ (t.slot j).colOffset := by
      rw [p.isLive hjk] at hj
      obtain ⟨hp', hro, hco, _, _, _, hw⟩ := Record.placement_eq_iff.1 (same hjk).2
      rw [hp'] at hp
      rw [hro] at hr
      rw [hco, hw]
      exact hapart j hj hjk hp hr
    by_cases hik : i = k
    · subst hik
      exact fun hp hr => (apart hj hne.symm hp.symm hr.symm).symm
    · by_cases hjk : j = k
      · subst hjk
        exact apart hi hik
      · rw [p.isLive hik] at hi
        rw [p.isLive hjk] at hj
        obtain ⟨hp, hro, hco, _, _, _, hw⟩ := Record.placement_eq_iff.1 (same hik).2
        obtain ⟨hp', hro', hco', _, _, _, hw'⟩ := Record.placement_eq_iff.1 (same hjk).2
        rw [hp, hro, hco, hw, hp', hro', hco', hw']
        exact h.apart i j hi hj hne
  · rw [p.clearJob] at hj
    exact h.clearing j ws c hj (claimed (fun hjk => hjob ws (hjk ▸ hj)) hc)

end

/-! ## The records of a moved panel (R120, R121) -/

/-- The record `k` with its anchor recomputed in panel `e` and its new span claimed. -/
def State.reanchored (s : State) (k : Nat) (e : Panel) : State :=
  (s.updSlot k (fun r => { r with page := e.page, row := e.row + r.rowOffset, col := e.col + r.colOffset })).claimAll k
    ((s.slot k).spanAt e.page e.row e.col)

section
variable {s : State} {k : Nat} {e : Panel}

theorem State.reclaim_eq (hpanel : s.panel (s.slot k).panel = some e) : s.reclaim k = (s.reanchored k e).becomeDue k := by
  simp only [State.reclaim, hpanel, State.slot_updSlot, if_true]
  rfl

theorem State.reanchored_slot (j : Nat) : (s.reanchored k e).slot j =
    if j = k then { s.slot k with page := e.page, row := e.row + (s.slot k).rowOffset, col := e.col + (s.slot k).colOffset }
    else s.slot j := by
  rw [State.reanchored, State.slot_of_slots (State.claimAll_leaves _ _ _).1, State.slot_updSlot]

theorem State.reanchored_claim (c : Nat) : (s.reanchored k e).claim c =
    if c ∈ (s.slot k).spanAt e.page e.row e.col then some k else s.claim c := (State.claimAll_spec _ _ _).1 c

theorem State.reanchored_frame : (s.reanchored k e).panels = s.panels ∧ (s.reanchored k e).ptr = s.ptr
    ∧ (s.reanchored k e).mdc = s.mdc := by
  rw [State.reanchored, (State.claimAll_spec _ _ _).2]
  exact ⟨rfl, rfl, rfl⟩

/-- What a record re-anchored, claimed and made due leaves. -/
theorem State.reclaim_placed (hpanel : s.panel (s.slot k).panel = some e) (live : s.isLive k = true)
    (inPanel : (s.slot k).rowOffset < e.height ∧ (s.slot k).colOffset + (s.slot k).width ≤ e.width) :
    s.Placed (s.reclaim k) k e
    ∧ ((s.reclaim k).slot k).span = (s.slot k).spanAt e.page e.row e.col
    ∧ ((s.reclaim k).slot k).panel = (s.slot k).panel ∧ ((s.reclaim k).slot k).rowOffset = (s.slot k).rowOffset
    ∧ ((s.reclaim k).slot k).colOffset = (s.slot k).colOffset ∧ ((s.reclaim k).slot k).width = (s.slot k).width := by
  obtain ⟨hpanels, hptr, _⟩ := s.reanchored_frame (k := k) (e := e)
  have kept (a : Aspect) : a.Kept (s.reanchored k e) (s.reclaim k) := by
    rw [State.reclaim_eq hpanel]
    exact (s.reanchored k e).becomeDue_keeps (P := fun _ => False) k a id
  have hstate := kept .states
  have hplace := kept .places
  obtain ⟨hp, hro, hco, hpg, hr, hc, hw⟩ := Record.placement_eq_iff.1 (hplace k)
  rw [State.reanchored_slot, if_pos rfl] at hp hro hco hpg hr hc hw
  have hspan : ((s.reclaim k).slot k).span = (s.slot k).spanAt e.page e.row e.col := by
    rw [Record.span, hpg, hr, hc, hw]
    rfl
  refine ⟨⟨fun j hj => ?_, fun c => ?_, Eq.trans (kept .panels) hpanels,
    Eq.trans (kept .clearing) (congrArg (fun ptr => ptr.painter.clearJob) hptr), ?_, hp ▸ hpanel, ?_, ?_⟩, hspan, hp, hro, hco, hw⟩
  · rw [Record.place_eq_iff.2 ⟨hstate j, hplace j⟩, State.reanchored_slot, if_neg hj]
  · rw [State.claim_of_claims (kept .claims), State.reanchored_claim, hspan]
  · rw [State.isLive_iff, hstate, State.reanchored_slot, if_pos rfl]
    exact (s.isLive_iff k).1 live
  · exact ⟨hpg, hro ▸ hr, hco ▸ hc⟩
  · rw [hro, hco, hw]
    exact inPanel

end

/-- A panel's records on the way to its new place, which lies inside the page; none of them is the slot of the clear job in hand. -/
structure State.Moves (s : State) (p : Nat) (e : Panel) (l : List Nat) : Prop extends s.AwaitsMove p e l where
  inside : e.Inside
  job : ∀ k ws, s.ptr.painter.clearJob = some (k, ws) → s.isLive k = false

section
variable {s : State} {p k : Nat} {e : Panel} {l : List Nat}

theorem State.PlacesSound.inNewPanel (h : s.PlacesSound l) (moves : s.Moves p e l) (hk : k ∈ l) :
    s.panel (s.slot k).panel = some e
      ∧ (s.slot k).rowOffset < e.height ∧ (s.slot k).colOffset + (s.slot k).width ≤ e.width := by
  have hpanel : s.panel (s.slot k).panel = some e := by rw [moves.housed k hk, moves.panel]
  exact ⟨hpanel, h.inPanel k e (moves.live k hk) hpanel⟩

/-- A record moved when no cell names it any more: its new span is claimed by records of its own panel still to be moved at most
(R119, R122). -/
theorem State.PlacesSound.reclaim (h : s.PlacesSound (k :: l)) (moves : s.Moves p e (k :: l)) (hunclaimed : ∀ c, s.claim c ≠ some k) :
    (s.reclaim k).PlacesSound l := by
  have hk : k ∈ k :: l := List.mem_cons_self ..
  have live := moves.live k hk
  obtain ⟨hpanel, inPanel⟩ := h.inNewPanel moves hk
  obtain ⟨placed, hspan, hp, hro, hco, hw⟩ := State.reclaim_placed hpanel live inPanel
  have apart (j : Nat) (hj : s.isLive j = true) (hjk : j ≠ k) := h.apart j k hj live hjk
  rw [← hp, ← hro, ← hco, ← hw] at apart
  refine h.placed placed moves.inside (fun j hjk hj hmem => (List.mem_cons.1 hmem).elim hjk hj)
    (fun ws hjob => by rw [moves.job k ws hjob] at live; cases live) hunclaimed (fun c hc j hclaim hj hjk => ?_) apart
  have hjp : (s.slot j).panel = p :=
    State.claimedElsewhere_eq_false_iff.1 (moves.unclaimed k hk c (hspan ▸ hc)) j hclaim hj
  by_contra hrest
  obtain ⟨hpage, hrow, hcol⟩ := h.anchored j e hj (fun hmem => (List.mem_cons.1 hmem).elim hjk hrest) (by rw [hjp, moves.panel])
  obtain ⟨_, hrow50, hcol132⟩ := h.inPage j (State.not_free_of_live hj)
  obtain ⟨_, hrow50', hcol132'⟩ := placed.inPage moves.inside
  obtain ⟨_, hrowEq, hleft, hright⟩ := spanCells_overlap hrow50 hcol132 hrow50' hcol132' (h.owner c j hclaim).2 hc
  obtain ⟨_, hrow', hcol'⟩ := placed.anchored
  have := apart j hj hjk (by rw [hp, hjp, moves.housed k hk]) (by omega)
  omega

theorem State.Moves.reclaim (moves : s.Moves p e (k :: l)) (places : s.PlacesSound (k :: l)) : (s.reclaim k).Moves p e l := by
  have hk : k ∈ k :: l := List.mem_cons_self ..
  have live := moves.live k hk
  obtain ⟨hpanel, inPanel⟩ := places.inNewPanel moves hk
  obtain ⟨placed, _, hp, _⟩ := State.reclaim_placed hpanel live inPanel
  obtain ⟨hnot, hnodup⟩ := List.nodup_cons.1 moves.nodup
  have isLive (j : Nat) : (s.reclaim k).isLive j = s.isLive j := by
    by_cases hj : j = k
    · rw [hj, placed.live, live]
    · exact placed.isLive hj
  have housed (j : Nat) : ((s.reclaim k).slot j).panel = (s.slot j).panel := by
    by_cases hj : j = k
    · rw [hj, hp]
    · exact (Record.placement_eq_iff.1 (Record.place_eq_iff.1 (placed.others j hj)).2).1
  refine ⟨⟨hnodup, (State.panel_of_panels placed.panels p).trans moves.panel, moves.frozen, fun j hj => ?_, fun j hj => ?_,
    fun j hj c hc => State.claimedElsewhere_eq_false_iff.2 fun i hi hlive => ?_⟩, moves.inside, fun j ws hjob => ?_⟩
  · exact (isLive j).trans (moves.live j (List.mem_cons_of_mem _ hj))
  · exact (housed j).trans (moves.housed j (List.mem_cons_of_mem _ hj))
  · have hjk : j ≠ k := fun heq => hnot (heq ▸ hj)
    obtain ⟨_, hro, hco, _, _, _, hw⟩ := Record.placement_eq_iff.1 (Record.place_eq_iff.1 (placed.others j hjk)).2
    rw [Record.spanAt, hro, hco, hw] at hc
    rw [housed]
    rw [placed.claims] at hi
    split at hi
    · rw [← Option.some.inj hi, moves.housed k hk]
    · exact State.claimedElsewhere_eq_false_iff.1 (moves.unclaimed j (List.mem_cons_of_mem _ hj) c hc) i hi (isLive i ▸ hlive)
  · exact (isLive j).trans (moves.job j ws (placed.clearJob ▸ hjob))

/-- The vacating writes are of the cells that name the record (R120). -/
theorem State.PlacesSound.mem_vacatingWrites (h : s.PlacesSound l) (cleared : Nat) {c : Nat} (hc : s.claim c = some k) :
    c ∈ (s.vacatingWrites k cleared).map CellWrite.cell := by
  simp [State.vacatingWrites, (h.owner c k hc).2, hc]

/-- The records of a moved panel go to its new place, up to the first that has cells to vacate (R120, R122). -/
theorem moveNext_claimsSound (m : Message) (cleared : Nat) (places : s.PlacesSound l) (moves : s.Moves p e l) :
    (moveNext m p cleared l s).ClaimsSound := by
  induction l generalizing s with
  | nil => exact State.PlacesSound.claimsSound { places with } rfl
  | cons k rest ih =>
    have named {c : Nat} (hc : s.claim c = some k) := places.mem_vacatingWrites cleared hc
    unfold moveNext
    split
    · next hnone =>
      have hunclaimed (c : Nat) (hc : s.claim c = some k) : False := by
        have := named hc
        rw [hnone] at this
        cases this
      exact ih (places.reclaim moves hunclaimed) (moves.reclaim places)
    · next ws hne =>
      refine State.claimsSound_iff.2 ⟨{ places with }, fun q j vs others heq => ?_⟩
      obtain ⟨rfl, rfl, rfl, rfl⟩ : p = q ∧ k = j ∧ s.vacatingWrites k cleared = vs ∧ rest = others := by
        simpa [Mdc.move] using heq
      exact ⟨fun c hc => named hc, hne, e, { moves.toAwaitsMove with }⟩

end

end Sys2Proof.Machine
end

section
/-!
PROOFS, every step keeps the Claim Map sound (O56): commands that claim nothing, BIND, PANEL_MOVE, and the grants that release claims.
-/

namespace Sys2Proof.Machine

/-! ## Commands and events that leave the claims and the placements -/

/-- The kinds of state that the Claim Map is held against, with the Claim Map. -/
def Aspect.placing : List Aspect := [claims, states, places, panels, clearing, moving]

section
variable {s t : State}

/-- The clear job's cells, when the job and the claims are as they were. -/
theorem State.ClaimsSound.clearing_of_kept (h : s.ClaimsSound) (hclaims : Aspect.claims.Kept s t)
    (hclearing : Aspect.clearing.Kept s t) (k : Nat) (ws : List CellWrite) (c : Nat)
    (hjob : t.ptr.painter.clearJob = some (k, ws)) (hc : t.claim c = some k) : c ∈ ws.map CellWrite.cell :=
  h.clearing k ws c (Painter.clearJob_eq_some.1 (Eq.trans (Eq.symm hclearing) hjob))
    (State.claim_of_claims hclaims c ▸ hc)

theorem State.ClaimsSound.of_kept (h : s.ClaimsSound) (kept : ∀ a ∈ Aspect.placing, a.Kept s t) : t.ClaimsSound := by
  have hclaims := kept .claims (by simp [Aspect.placing])
  have hstates : ∀ k, (t.slot k).state = (s.slot k).state := kept .states (by simp [Aspect.placing])
  have hplaces := kept .places (by simp [Aspect.placing])
  have hpanels := kept .panels (by simp [Aspect.placing])
  have hclearing := kept .clearing (by simp [Aspect.placing])
  have claim (c : Nat) : t.claim c = s.claim c := State.claim_of_claims hclaims c
  have isLive (k : Nat) : t.isLive k = s.isLive k := by rw [State.isLive, State.isLive, hstates]
  have recedes : s.Recedes t s.unmoved := {
    place := fun k hk => ⟨hstates k ▸ hk, hplaces k⟩
    live := fun k hk => isLive k ▸ hk
    claimed := fun c k hc => ⟨claim c ▸ hc, hstates k ▸ (h.owner c k (claim c ▸ hc)).1⟩
    kept := fun c k hc _ _ => (claim c).trans hc
    panel := fun k e _ he => ⟨e, State.panel_of_panels hpanels _ ▸ he, rfl⟩ }
  exact h.recede recedes (h.clearing_of_kept hclaims hclearing) (kept .moving (by simp [Aspect.placing]))
    (fun j hj => (isLive j).trans (h.unmoved_live hj)) fun _ _ => hpanels

theorem State.ClaimsSound.of_keeps {P : Aspect → Prop} (h : s.ClaimsSound) (kept : s.Keeps P t)
    (hP : ∀ a ∈ Aspect.placing, ¬ P a) : t.ClaimsSound := h.of_kept fun a ha => kept a (hP a ha)

/-! ## Retiring, and opening, closing, freezing and thawing a panel -/

/-- A panel that is open before and after has kept its place and size. -/
def State.SameRectangles (s t : State) : Prop :=
  ∀ q e x, s.panel q = some x → t.panel q = some e → e.rectangle = x.rectangle

theorem State.SameRectangles.of_panels (h : t.panels = s.panels) : s.SameRectangles t := fun q e x hx he => by
  rw [State.panel_of_panels h, hx] at he
  rw [Option.some.inj he]

/-- A panel set otherwise, with its place and size if it was open, and then no panel. -/
theorem State.SameRectangles.of_setPanel {p : Nat} {entry : Option Panel}
    (hentry : ∀ e x, s.panel p = some x → entry = some e → e.rectangle = x.rectangle)
    (h : t.panels = (s.setPanel p entry).panels) : s.SameRectangles t := fun q e x hx he => by
  rw [State.panel_of_panels h, State.panel_setPanel] at he
  split at he
  · next hq => exact hentry e x (hq ▸ hx) he
  · rw [hx] at he
    rw [Option.some.inj he]

theorem State.panels_of_keeps {P : Aspect → Prop} (h : s.Keeps P t) (hP : ¬ P .panels) : t.panels = s.panels := h .panels hP

theorem panelFreeze_rectangles {p : Nat} {e : Panel} (he : s.panel p = some e) : s.SameRectangles (panelFreeze p e s) := by
  unfold panelFreeze
  split
  · exact .of_panels rfl
  · refine .of_setPanel (fun y x hx hy => ?_)
      (State.panels_of_keeps (P := fun _ => False) (.foldl State.defer_keeps _ _) id)
    rw [← Option.some.inj hy, ← Option.some.inj (he.symm.trans hx)]
    rfl

theorem panelThaw_rectangles {p : Nat} {e : Panel} (he : s.panel p = some e) : s.SameRectangles (panelThaw p e s) := by
  unfold panelThaw
  split
  · refine .of_setPanel (fun y x hx hy => ?_)
      (State.panels_of_keeps (P := fun _ => False) (.foldl State.resume_keeps _ _) id)
    rw [← Option.some.inj hy, ← Option.some.inj (he.symm.trans hx)]
    rfl
  · exact .of_panels rfl

theorem panelClose_rectangles (p : Nat) : s.SameRectangles (panelClose p s) := fun q e x hx he => by
  have retired : ((s.panelRecords p).foldl State.retire s).panels = s.panels :=
    State.panels_of_keeps (P := fun a => a.Names .retire) (.foldl (fun t k => t.retire_keeps k (.inr (.inl rfl))) _ s)
      (by simp [Aspect.Names])
  rw [panelClose, State.panel_setPanel, State.panel_of_panels retired] at he
  split at he
  · cases he
  · rw [hx] at he
    rw [Option.some.inj he]

/-- The commands that retire records or set a panel otherwise in its place. -/
def Command.retiresOrSets : Command → Bool
  | .retire | .panelOpen | .panelClose | .panelFreeze | .panelThaw => true
  | _ => false

theorem Command.body_rectangles {c : Command} (hc : c.retiresOrSets = true) (m : Message) :
    (c.body m s).Leads s.SameRectangles := by
  cases c with
  | retire =>
    refine .check fun _ => ?_
    split
    · exact .of_panels (State.panels_of_keeps (P := fun a => a.Names .retire) (s.retire_keeps _ (.inr (.inl rfl)))
        (by simp [Aspect.Names]))
    · trivial
  | panelOpen =>
    refine .check fun _ => .check fun _ => .check fun _ => .check fun _ => ?_
    split
    · trivial
    · refine .check fun _ => .check fun hopen => ?_
      exact .of_setPanel (fun e x hx _ => absurd (Option.isSome_of_eq_some hx) hopen) rfl
  | panelClose => exact .check fun _ => .check fun _ => panelClose_rectangles _
  | panelFreeze =>
    refine .check fun _ => ?_
    split
    · trivial
    · next e he => exact panelFreeze_rectangles he
  | panelThaw =>
    refine .check fun _ => ?_
    split
    · trivial
    · next e he => exact panelThaw_rectangles he
  | _ => exact Bool.noConfusion hc

theorem Command.exec_rectangles {c : Command} (hc : c.retiresOrSets = true) :
    Step.Leads s.SameRectangles (exec c.instr s) := by
  rw [exec_instr]
  exact runCommand_keeps (P := s.SameRectangles) (.of_panels rfl) (fun _ => .of_panels rfl) (fun _ _ _ _ hu => hu)
    fun m reply _ _ => Command.body_rectangles (s := s.taken reply) hc m

/-- A message command waits while a PANEL_MOVE is in execution (R12). -/
theorem Command.exec_of_moving (c : Command) {x : Nat × Nat × List CellWrite × List Nat} (hmove : s.mdc.move = some x) :
    exec c.instr s = .next s := by
  rw [exec_instr]
  rcases runCommand_cases c c.body s with same | ⟨m, reply, ready⟩
  · rw [same]
  · rw [ready.move_none] at hmove
    cases hmove

/-- The moves of these commands are from LIVE to RETIRING (Table 2-1), and the kinds of state they leave. -/
theorem Command.retiresOrSets_leaves {c : Command} (hc : c.retiresOrSets = true) :
    (c.instr ≠ .powerOnReset) ∧ (∀ a b, Instr.slotMove c.instr = some (a, b) → a = .live ∧ b = .retiring)
      ∧ ∀ a ∈ ([.claims, .places, .clearing, .moving] : List Aspect), ¬ a.Names c.instr := by
  cases c with
  | retire | panelClose => exact ⟨nofun, fun a b h => by cases h; exact ⟨rfl, rfl⟩, by simp [Aspect.Names, Command.instr]⟩
  | panelOpen | panelFreeze | panelThaw => exact ⟨nofun, nofun, by simp [Aspect.Names, Command.instr]⟩
  | _ => exact Bool.noConfusion hc

theorem State.Sound.exec_retiresOrSets {c : Command} (h : s.Sound) (hc : c.retiresOrSets = true) :
    Step.Leads State.ClaimsSound (exec c.instr s) := by
  cases hmove : s.mdc.move with
  | some x => exact c.exec_of_moving hmove ▸ h.claims
  | none =>
    obtain ⟨hreset, hmoves, hnames⟩ := Command.retiresOrSets_leaves hc
    obtain ⟨t, ht⟩ : ∃ t, exec c.instr s = .next t := ⟨_, exec_instr c s⟩
    have kept (a : Aspect) (ha : a ∈ ([.claims, .places, .clearing, .moving] : List Aspect)) : a.Kept s t :=
      (exec_keepsBut s hreset).next ht a (hnames a ha)
    have moved := (h.exec_movesSlots hreset).next ht
    have rectangles := (Command.exec_rectangles hc).next ht
    have hclaims := kept .claims (by simp)
    have hplaces := kept .places (by simp)
    have claim (c : Nat) : t.claim c = s.claim c := State.claim_of_claims hclaims c
    have state (k : Nat) : (t.slot k).state = (s.slot k).state
        ∨ (s.slot k).state = .live ∧ (t.slot k).state = .retiring := (moved.state k).imp_right (hmoves _ _)
    have free (k : Nat) : (t.slot k).state ≠ .free ↔ (s.slot k).state ≠ .free := by
      rcases state k with hk | ⟨hs, ht⟩
      · rw [hk]
      · simp [hs, ht]
    have live (k : Nat) (hk : t.isLive k = true) : s.isLive k = true := by
      rw [State.isLive_iff] at hk ⊢
      rcases state k with heq | ⟨hs, _⟩
      · rw [← heq, hk]
      · exact hs
    have recedes : s.Recedes t s.unmoved := {
      place := fun k hk => ⟨(free k).1 hk, hplaces k⟩
      live := live
      claimed := fun c k hc => ⟨claim c ▸ hc, (free k).2 (h.claims.owner c k (claim c ▸ hc)).1⟩
      kept := fun c k hc _ _ => (claim c).trans hc
      panel := fun k e hk he => by
        obtain ⟨x, hx⟩ := Option.isSome_iff_exists.1 (h.queue.housed k (live k hk))
        rw [← (Record.placement_eq_iff.1 (hplaces k)).1] at hx
        exact ⟨x, hx, rectangles _ e x hx he⟩ }
    rw [ht]
    refine h.claims.recede recedes (h.claims.clearing_of_kept hclaims (kept .clearing (by simp))) (kept .moving (by simp))
      (fun j hj => ?_) fun x hx => ?_
    · rw [State.unmoved_of_move_none hmove] at hj
      cases hj
    · rw [hmove] at hx
      cases hx

end

end Sys2Proof.Machine
end

section
/-!
PROOFS, every step keeps the Claim Map sound (O56): BIND and PANEL_MOVE, the grants that release claims, and the Painter's takes.
-/

namespace Sys2Proof.Machine

/-! ## BIND and PANEL_MOVE -/

/-- What a body hands over: at its end a sound Claim Map with no record to be moved, while it goes on one with those of its move. -/
def Verdict.LeavesClaims : Verdict → Prop
  | .refuse _ => True
  | .done u _ => u.PlacesSound []
  | .goesOn u => u.ClaimsSound

section
variable {s : State}

theorem State.Sound.command_claimsSound (h : s.Sound) {c : Command}
    (hbody : ∀ m reply, s.PlacesSound [] → (c.body m (s.taken reply)).LeavesClaims) :
    Step.Leads State.ClaimsSound (exec c.instr s) := by
  rw [exec_instr]
  rcases runCommand_cases c c.body s with same | ⟨m, reply, ready⟩
  · exact same.symm ▸ h.claims
  · have places : s.PlacesSound [] := State.unmoved_of_move_none ready.move_none ▸ (State.claimsSound_iff.1 h.claims).1
    have answered (r : Result) : (s.answered m reply r []).ClaimsSound :=
      State.PlacesSound.claimsSound { places with } rfl
    have leaves := hbody m reply places
    rw [runCommand_ready ready]
    split
    · cases hverdict : c.body m (s.taken reply) with
      | refuse r => exact answered r
      | done u data =>
        have places : u.PlacesSound [] := (hverdict ▸ leaves : (Verdict.done u data).LeavesClaims)
        exact State.PlacesSound.claimsSound { places with } rfl
      | goesOn u => exact (hverdict ▸ leaves : (Verdict.goesOn u).LeavesClaims)
    · exact answered .badLen

theorem Binding.valued_placement (b : Binding) (s : State) : (b.valued s).placement = b.record.placement := by
  rw [Binding.valued_eq]
  rfl

/-- The new record in its panel, with its span claimed. -/
theorem Binding.Accepted.placed {b : Binding} {p : List Byte} (a : b.Accepted p s) : s.Placed (bindApply b s) b.slot b.panel
    ∧ ((bindApply b s).slot b.slot).placement = b.record.placement := by
  obtain ⟨hkey, _, _, others⟩ := bindApply_views b s
  have frame := bindApply_frame b s
  have hpanels : (bindApply b s).panels = s.panels := by rw [frame]
  have hjob : (bindApply b s).ptr.painter.clearJob = s.ptr.painter.clearJob := by rw [frame]
  have hplace : ((bindApply b s).slot b.slot).placement = b.record.placement := by
    rw [bindApply_slot, if_pos rfl]
    exact b.valued_placement s
  obtain ⟨hp, hro, hco, hpg, hr, hc, hw⟩ := Record.placement_eq_iff.1 hplace
  refine ⟨⟨fun j hj => by rw [others j hj], fun c => ?_, hpanels, hjob, ?_, hp ▸ a.panel, ⟨hpg, hro ▸ hr, hco ▸ hc⟩, ?_⟩, hplace⟩
  · rw [Record.span_of_placement hplace]
    exact bindApply_claim b s c
  · rw [State.isLive_iff]
    exact (Record.key_eq_iff (x := b.record).1 hkey).1
  · rw [hro, hco, hw]
    exact a.inside

/-- The record of an accepted BIND lies on cells that no LIVE record claims, so apart from the LIVE records of its panel (R53). -/
theorem State.PlacesSound.bind (places : s.PlacesSound []) (inRange : s.InRange) (queue : s.QueueSound)
    (records : ∀ k, (s.slot k).Sound) {b : Binding} {p : List Byte} (a : b.Accepted p s) : (bindApply b s).PlacesSound [] := by
  obtain ⟨placed, hplace⟩ := a.placed
  have hfree := (State.lowestFree_some a.slot).2.1
  have inside := inRange.rectangles _ _ a.panel
  have hspan : ((bindApply b s).slot b.slot).span = b.span := Record.span_of_placement (x := b.record) hplace
  have ground (c : Nat) (hc : c ∈ b.span) (j : Nat) (hj : s.claim c = some j) : s.isLive j = false :=
    State.claimedLive_eq_false_iff.1 (Bool.eq_false_iff.2 fun hlive => by
      have := a.apart
      rw [List.any_eq_false] at this
      exact this c hc hlive) j hj
  refine places.placed placed inside (fun _ _ hj => hj) (fun ws hjob => ?_) (fun c hc => (places.owner c _ hc).1 hfree)
    (fun c hc j hj hlive _ => ?_) fun j hj _ hpanel hrow => ?_
  · have := (queue.clearing _ ws (Painter.clearJob_eq_some.1 hjob)).1
    rw [hfree] at this
    cases this
  · rw [ground c (hspan ▸ hc) j hj] at hlive
    cases hlive
  · by_contra hover
    obtain ⟨hlow, hhigh⟩ := not_or.1 hover
    have hentry : s.panel (s.slot j).panel = some b.panel := hpanel ▸ placed.panel
    obtain ⟨hpg, hr, hc⟩ := places.anchored j _ hj (by simp) hentry
    obtain ⟨hpg', hr', hc'⟩ := placed.anchored
    have hw : 0 < (s.slot j).width := ((records j).placed (State.not_free_of_live hj)).2.2.1
    have hw' : 0 < ((bindApply b s).slot b.slot).width := by
      rw [(Record.placement_eq_iff.1 hplace).2.2.2.2.2.2]
      exact a.widthOk.1
    obtain ⟨c, hcj, hcb⟩ := spanCells_meet (page := (s.slot j).page) (row := (s.slot j).row) (col := (s.slot j).col)
      (col' := ((bindApply b s).slot b.slot).col) hw hw' (by omega) (by omega)
    have hmem : c ∈ b.span := by
      rw [← hspan, Record.span, hpg', hr', ← hrow, ← hr, ← hpg]
      exact hcb
    rw [ground c hmem j (places.full j hj (by simp) c hcj)] at hj
    cases hj

theorem State.Sound.execBind (h : s.Sound) : Step.Leads State.ClaimsSound (exec .bind s) := by
  refine h.command_claimsSound (c := .bind) fun m reply places => ?_
  have places : (s.taken reply).PlacesSound [] := { places with }
  rw [show Command.bind.body m (s.taken reply) = bindBody m (s.taken reply) from rfl, bindBody]
  rcases bindCheck_cases m.params (s.taken reply) with ⟨r, _, hcheck⟩ | ⟨_, b, hcheck, accepted⟩
  · rw [hcheck]
    trivial
  · rw [hcheck]
    exact places.bind { h.inRange with } { h.queue with } h.records accepted

/-- The checks of PANEL_MOVE (R119): it refuses, or moves a FROZEN panel to a place inside its page that no LIVE record of another
panel claims for one of its records. -/
theorem panelMoveBody_cases (m : Message) (s : State) : (∃ r, panelMoveBody m s = .refuse r)
    ∨ ∃ p e page row col, s.panel p = some e ∧ e.frozen = true ∧ page ≤ 3 ∧ row + e.height ≤ 50 ∧ col + e.width ≤ 132
      ∧ (∀ k ∈ s.panelRecords p, ∀ c ∈ (s.slot k).spanAt page row col, s.claimedElsewhere p c = false)
      ∧ panelMoveBody m s = .goesOn (panelMove m p e page row col s) := by
  by_cases hp : 31 < u8 m.params 0
  · exact .inl ⟨.badArg, if_pos hp⟩
  by_cases hpage : 3 < u8 m.params 1
  · exact .inl ⟨.badArg, by rw [panelMoveBody, if_neg hp, if_pos hpage]⟩
  simp only [panelMoveBody, if_neg hp, if_neg hpage]
  cases hpanel : s.panel (u8 m.params 0) with
  | none => exact .inl ⟨.noPanel, rfl⟩
  | some e =>
    dsimp only
    by_cases hfrozen : e.frozen = true
    · by_cases hout : 50 < u8 m.params 2 + e.height ∨ 132 < u8 m.params 3 + e.width
      · exact .inl ⟨.outside, by simp [hfrozen, hout]⟩
      · cases hcollide : (s.panelRecords (u8 m.params 0)).any (fun k => ((s.slot k).spanAt (u8 m.params 1) (u8 m.params 2)
            (u8 m.params 3)).any (s.claimedElsewhere (u8 m.params 0))) with
        | true => exact .inl ⟨.collide, by simp [hfrozen, hout]⟩
        | false =>
          simp only [List.any_eq_false, Bool.not_eq_true] at hcollide
          exact .inr ⟨_, e, _, _, _, hpanel, hfrozen, by omega, by omega, by omega, hcollide, by simp [hfrozen, hout]⟩
    · exact .inl ⟨.notFrozen, by simp [hfrozen]⟩

/-- The panel's entry at its new place, and its records still at their old anchors (R120). -/
theorem State.PlacesSound.setPanel (places : s.PlacesSound []) (inRange : s.InRange) {p : Nat} {e : Panel} (page row col : Nat)
    (hpanel : s.panel p = some e) :
    (s.setPanel p (some { e with page := page, row := row, col := col })).PlacesSound (s.panelRecords p) where
  owner := places.owner
  full k live _ := places.full k live (by simp)
  anchored k x live hk hx := by
    have live : s.isLive k = true := live
    have hother : (s.slot k).panel ≠ p := fun heq => hk (List.mem_filter.2
      ⟨List.mem_range.2 (inRange.lt_of_not_free (State.not_free_of_live live)), by simp [live, heq]⟩)
    exact places.anchored k x live (by simp) (((State.panel_setPanel ..).trans (if_neg hother)).symm.trans hx)
  inPanel k x live hx := by
    have entry := State.panel_setPanel s p (some { e with page := page, row := row, col := col }) (s.slot k).panel
    have hx : (s.setPanel p (some { e with page := page, row := row, col := col })).panel (s.slot k).panel = some x := hx
    rw [entry] at hx
    split at hx
    · next hp =>
      rw [← Option.some.inj hx]
      exact places.inPanel k e live (hp ▸ hpanel)
    · exact places.inPanel k x live hx
  inPage := places.inPage
  apart := places.apart
  clearing := places.clearing

theorem State.PlacesSound.panelMove (places : s.PlacesSound []) (inRange : s.InRange) (queue : s.QueueSound) (m : Message)
    {p page row col : Nat} {e : Panel} (hpanel : s.panel p = some e) (hfrozen : e.frozen = true) (hpage : page ≤ 3)
    (hrow : row + e.height ≤ 50) (hcol : col + e.width ≤ 132)
    (hground : ∀ k ∈ s.panelRecords p, ∀ c ∈ (s.slot k).spanAt page row col, s.claimedElsewhere p c = false) :
    (panelMove m p e page row col s).ClaimsSound := by
  have inside := inRange.rectangles p e hpanel
  have record {k : Nat} (hk : k ∈ s.panelRecords p) : s.isLive k = true ∧ (s.slot k).panel = p := by
    simpa using (List.mem_filter.1 hk).2
  refine moveNext_claimsSound m s.cleared (places.setPanel inRange page row col hpanel) {
    nodup := s.panelRecords_nodup p
    panel := (State.panel_setPanel ..).trans (if_pos rfl)
    frozen := hfrozen
    live := fun k hk => (record hk).1
    housed := fun k hk => (record hk).2
    unclaimed := hground
    inside := ⟨hpage, ⟨inside.height.1, hrow⟩, inside.width.1, hcol⟩
    job := fun k ws hjob => ?_ }
  have hstate := (queue.clearing k ws (Painter.clearJob_eq_some.1 hjob)).1
  refine Bool.eq_false_iff.2 fun hlive => ?_
  rw [(s.isLive_iff k).1 hlive] at hstate
  cases hstate

theorem State.Sound.execPanelMove (h : s.Sound) : Step.Leads State.ClaimsSound (exec .panelMove s) := by
  refine h.command_claimsSound (c := .panelMove) fun m reply places => ?_
  have places : (s.taken reply).PlacesSound [] := { places with }
  rw [show Command.panelMove.body m (s.taken reply) = panelMoveBody m (s.taken reply) from rfl]
  rcases panelMoveBody_cases m (s.taken reply) with ⟨r, hbody⟩ |
    ⟨p, e, page, row, col, hpanel, hfrozen, hpage, hrow, hcol, hground, hbody⟩
  · rw [hbody]
    trivial
  · rw [hbody]
    exact places.panelMove { h.inRange with } { h.queue with } m hpanel hfrozen hpage hrow hcol hground

end

/-! ## Grants that release a claim (R121, R150) -/

/-- A granted blank of slot `k`: carried out and its claim released while the cell names the slot, and the requester marked. -/
def State.released (s : State) (k : Nat) (w : CellWrite) (q : Requester) : State := (s.clearWrite k w).setMark q

section
variable {s : State} {k : Nat} {w : CellWrite} {q : Requester}

theorem State.vacate_eq : (s.vacate k w).setMark q = s.released k w q := rfl

theorem State.released_claim (c : Nat) :
    (s.released k w q).claim c = if c = w.cell ∧ s.claim c = some k then none else s.claim c := by
  unfold State.released State.clearWrite
  split
  · next hk =>
    refine ((s.writeCell w).claim_setClaim w.cell none c).trans ?_
    by_cases hc : c = w.cell
    · rw [if_pos hc, if_pos ⟨hc, hc ▸ hk⟩]
    · exact (if_neg hc).trans (if_neg fun h => hc h.1).symm
  · next hk =>
    rw [if_neg (by rintro ⟨rfl, hc⟩; exact hk hc)]
    rfl

theorem State.released_frame : (s.released k w q).ftb.slots = s.ftb.slots ∧ (s.released k w q).panels = s.panels
    ∧ (s.released k w q).ptr = s.ptr ∧ (s.released k w q).mdc = s.mdc := by
  unfold State.released State.clearWrite
  split <;> exact ⟨rfl, rfl, rfl, rfl⟩

/-- The cells still to be blanked for the slot are those of the writes after the granted one. -/
theorem State.mem_of_released {ws : List CellWrite} (hs : ∀ c, s.claim c = some k → c ∈ (w :: ws).map CellWrite.cell) {c : Nat}
    (hc : (s.released k w q).claim c = some k) : c ∈ ws.map CellWrite.cell := by
  rw [State.released_claim] at hc
  split at hc
  · cases hc
  · next hkept =>
    exact (List.mem_cons.1 (hs c hc)).resolve_left fun heq => hkept ⟨heq, hc⟩

/-- A release takes no claim from a LIVE record but one still to be moved. -/
theorem State.ClaimsSound.released (h : s.ClaimsSound) (hk : s.isLive k = true → k ∈ s.unmoved) :
    (s.released k w q).ClaimsSound := by
  obtain ⟨hslots, hpanels, hptr, hmdc⟩ := s.released_frame (k := k) (w := w) (q := q)
  have slot (j : Nat) : (s.released k w q).slot j = s.slot j := State.slot_of_slots hslots j
  have isLive (j : Nat) : (s.released k w q).isLive j = s.isLive j := by rw [State.isLive, State.isLive, slot]
  have claimed {c j : Nat} (hc : (s.released k w q).claim c = some j) : s.claim c = some j := by
    rw [State.released_claim] at hc
    split at hc
    · cases hc
    · exact hc
  have recedes : s.Recedes (s.released k w q) s.unmoved := {
    place := fun j hj => ⟨slot j ▸ hj, by rw [slot]⟩
    live := fun j hj => isLive j ▸ hj
    claimed := fun c j hc => ⟨claimed hc, slot j ▸ (h.owner c j (claimed hc)).1⟩
    kept := fun c j hc hlive hj => by
      rw [State.released_claim, if_neg, hc]
      rintro ⟨_, hck⟩
      obtain rfl : j = k := Option.some.inj (hc.symm.trans hck)
      exact hj (hk (isLive j ▸ hlive))
    panel := fun j e _ he => ⟨e, State.panel_of_panels hpanels _ ▸ he, rfl⟩ }
  refine h.recede recedes (fun j ws c hjob hc => ?_) (by rw [hmdc]) (fun j hj => (isLive j).trans (h.unmoved_live hj))
    fun _ _ => hpanels
  rw [hptr] at hjob
  exact h.clearing j ws c (Painter.clearJob_eq_some.1 hjob) (claimed hc)

/-- VACATE_WRITE_GRANT: the record's claims are released one by one, and after the last it goes to its new place (R121). -/
theorem State.Sound.execVacateWriteGrant (h : s.Sound) : Step.Leads State.ClaimsSound (execVacateWriteGrant s) := by
  unfold Machine.execVacateWriteGrant
  split
  · next m p cleared k w ws rest hmdc =>
    have hmove : s.mdc.move = some (p, k, w :: ws, rest) := by rw [hmdc]; rfl
    have hunmoved := State.unmoved_of_move hmove
    have released := h.claims.released (w := w) (q := .mdc) fun _ => hunmoved ▸ List.mem_cons_self ..
    obtain ⟨hslots, hpanels, hptr, hmdc'⟩ := s.released_frame (k := k) (w := w) (q := .mdc)
    have hleft {c : Nat} := State.mem_of_released (q := .mdc) (ws := ws) (c := c)
      fun c => h.claims.vacating m p cleared k (w :: ws) rest c hmdc
    have hmove' : (s.released k w .mdc).mdc.move = some (p, k, w :: ws, rest) := hmdc'.symm ▸ hmove
    obtain ⟨places, moving⟩ := State.claimsSound_iff.1 released
    obtain ⟨_, _, e, await⟩ := moving p k (w :: ws) rest hmove'
    rw [State.unmoved_of_move hmove'] at places
    split
    · simp only [State.vacate_eq]
      split
      · next hlast =>
        have hunclaimed (c : Nat) (hc : (s.released k w .mdc).claim c = some k) : False := by
          have := hleft hc
          rw [List.isEmpty_iff.1 hlast] at this
          cases this
        have moves : (s.released k w .mdc).Moves p e (k :: rest) := {
          await with
          inside := h.inRange.rectangles p e (State.panel_of_panels hpanels p ▸ await.panel)
          job := fun j vs hjob => by
            rw [hptr] at hjob
            have hstate := (h.queue.clearing j vs (Painter.clearJob_eq_some.1 hjob)).1
            rw [State.isLive, State.slot_of_slots hslots, hstate]
            rfl }
        exact moveNext_claimsSound m cleared (places.reclaim moves hunclaimed) (moves.reclaim places)
      · next hmore =>
        refine State.claimsSound_iff.2 ⟨{ places with }, fun q j vs others heq => ?_⟩
        obtain ⟨rfl, rfl, rfl, rfl⟩ : p = q ∧ k = j ∧ ws = vs ∧ rest = others := by simpa [Mdc.move] using heq
        exact ⟨fun c => hleft, fun hnil => hmore (by rw [hnil]; rfl), e, { await with }⟩
    · exact h.claims
  · exact h.claims

/-! ## Clear jobs (R149, R151) -/

/-- The slot of an ended clear job emptied and the Painter IDLE, before the SYNC fence (R151). -/
def State.emptied (s : State) (k : Nat) : State :=
  { s.setSlot k Record.empty with
    ftb := { (s.setSlot k Record.empty).ftb with retiringCount := s.ftb.retiringCount - 1, freeCount := s.ftb.freeCount + 1 }
    ptr := { s.ptr with painter := .idle } }

theorem State.clearEnded_eq : s.clearEnded k = (s.emptied k).jobEnded k := rfl

theorem State.emptied_slot (j : Nat) : (s.emptied k).slot j = if j = k then Record.empty else s.slot j :=
  s.slot_setSlot k Record.empty j

/-- A clear job that ends leaves its slot FREE, which no cell names any more (R151). -/
theorem State.ClaimsSound.clearEnded (h : s.ClaimsSound) (hretiring : (s.slot k).state = .retiring)
    (hunclaimed : ∀ c, s.claim c ≠ some k) : (s.clearEnded k).ClaimsSound := by
  have isLive {j : Nat} (hj : (s.emptied k).isLive j = true) : j ≠ k ∧ s.isLive j = true := by
    rw [State.isLive, State.emptied_slot] at hj
    split at hj
    · cases hj
    · next hjk => exact ⟨hjk, hj⟩
  have recedes : s.Recedes (s.emptied k) s.unmoved := {
    place := fun j hj => by
      rw [State.emptied_slot] at hj ⊢
      split at hj
      · exact absurd rfl hj
      · next hjk => exact ⟨hj, by rw [if_neg hjk]⟩
    live := fun j hj => (isLive hj).2
    claimed := fun c j hc => ⟨hc, by
      have hjk : j ≠ k := fun heq => hunclaimed c (heq ▸ hc)
      rw [State.emptied_slot, if_neg hjk]
      exact (h.owner c j hc).1⟩
    kept := fun _ _ hc _ _ => hc
    panel := fun _ e _ he => ⟨e, he, rfl⟩ }
  have emptied : (s.emptied k).ClaimsSound := by
    refine h.recede recedes nofun rfl (fun j hj => ?_) fun _ _ => rfl
    have live := h.unmoved_live hj
    have hjk : j ≠ k := fun heq => by
      rw [← heq, (s.isLive_iff j).1 live] at hretiring
      cases hretiring
    rw [State.isLive, State.emptied_slot, if_neg hjk]
    exact live
  rw [State.clearEnded_eq]
  exact emptied.of_keeps (State.jobEnded_keeps (P := fun _ => False) _ k) fun _ _ => id

/-- CLEAR_WRITE_GRANT: the claims of the clearing slot are released one by one, and after the last the slot is FREE (R150, R151). -/
theorem State.Sound.execClearWriteGrant (h : s.Sound) : Step.Leads State.ClaimsSound (execClearWriteGrant s) := by
  unfold Machine.execClearWriteGrant
  split
  · next k w ws hpainter =>
    obtain ⟨hretiring, _⟩ := h.queue.clearing k (w :: ws) hpainter
    have released := h.claims.released (k := k) (w := w) (q := .ptr) fun live => by
      rw [(s.isLive_iff k).1 live] at hretiring
      cases hretiring
    have hleft {c : Nat} := State.mem_of_released (q := .ptr) (ws := ws) (c := c)
      fun c => h.claims.clearing k (w :: ws) c hpainter
    split
    · have hreleased : (s.clearWrite k w).setMark .ptr = s.released k w .ptr := rfl
      simp only [hreleased]
      split
      · next hlast =>
        refine released.clearEnded ?_ fun c hc => ?_
        · rw [State.slot_of_slots s.released_frame.1, hretiring]
        · have := hleft hc
          rw [List.isEmpty_iff.1 hlast] at this
          cases this
      · refine { released with clearing := fun j vs c hjob hc => ?_ }
        obtain ⟨rfl, rfl⟩ := Painter.clearing.inj hjob
        exact hleft hc
    · exact h.claims
  · exact h.claims

/-- The take of a clear job: its writes are of the cells that name the slot, and with none the slot is FREE at once (R149, R151). -/
theorem State.ClaimsSound.takeClear (h : s.ClaimsSound) (hretiring : (s.slot k).state = .retiring) :
    (s.takeClear k).ClaimsSound := by
  have named {c : Nat} (hc : s.claim c = some k) : c ∈ (s.clearWrites k).map CellWrite.cell := by
    simp [State.clearWrites, (h.owner c k hc).2, hc]
  unfold State.takeClear
  split
  · next hnone =>
    refine h.clearEnded hretiring fun c hc => ?_
    have := named hc
    rw [hnone] at this
    cases this
  · refine { h with clearing := fun j vs c hjob hc => ?_ }
    obtain ⟨rfl, rfl⟩ := Painter.clearing.inj hjob
    exact named hc

theorem State.Sound.execPainterTake (h : s.Sound) : Step.Leads State.ClaimsSound (execPainterTake s) := by
  unfold Machine.execPainterTake
  split
  · next k rest _ =>
    split
    · next hgo =>
      have hjob : s.ptr.painter.clearJob = none := by
        rw [show s.ptr.painter = .idle by simpa using (Bool.and_eq_true_iff.1 hgo).2]
        rfl
      have flagged : (s.updSlot k (fun r => { r with queued := false })).ClaimsSound :=
        h.claims.of_keeps (s.updSlot_keeps (P := fun _ => False) k rfl) fun _ _ => id
      have taken : State.ClaimsSound
          { s.updSlot k (fun r => { r with queued := false }) with ptr := { s.ptr with queue := rest } } := { flagged with }
      split
      · exact taken.of_keeps (State.takeLive_keeps (P := fun _ => False) _ k hjob) fun _ _ => id
      · next hretiring =>
        refine taken.takeClear ?_
        have slot : ((s.updSlot k (fun r => { r with queued := false })).slot k).state = .retiring := by
          rw [State.slot_updSlot, if_pos rfl]
          exact hretiring
        exact slot
      · trivial
    · exact h.claims
  · exact h.claims

/-! ## Every command and event -/

/-- Power-on reset leaves no claim, no record and no panel (R192). -/
theorem State.reset_claimsSound (pending : List Instr) : ({ State.reset with pending := pending } : State).ClaimsSound :=
  State.PlacesSound.claimsSound {
    owner := nofun
    full := nofun
    anchored := nofun
    inPanel := nofun
    inPage := fun _ hstate => absurd rfl hstate
    apart := nofun
    clearing := nofun } rfl

theorem State.Sound.exec_claimsSound (h : s.Sound) (i : Instr) : Step.Leads State.ClaimsSound (exec i s) := by
  have leaves (hi : ∀ a ∈ Aspect.placing, ¬ a.Names i) (hreset : i ≠ .powerOnReset) : Step.Leads State.ClaimsSound (exec i s) :=
    (exec_keepsBut s hreset).mono fun _ kept => h.claims.of_keeps kept hi
  cases i with
  | powerOnReset => exact State.reset_claimsSound s.pending
  | bind => exact h.execBind
  | panelMove => exact h.execPanelMove
  | retire => exact h.exec_retiresOrSets (c := .retire) rfl
  | panelOpen => exact h.exec_retiresOrSets (c := .panelOpen) rfl
  | panelClose => exact h.exec_retiresOrSets (c := .panelClose) rfl
  | panelFreeze => exact h.exec_retiresOrSets (c := .panelFreeze) rfl
  | panelThaw => exact h.exec_retiresOrSets (c := .panelThaw) rfl
  | vacateWriteGrant => exact h.execVacateWriteGrant
  | clearWriteGrant => exact h.execClearWriteGrant
  | painterTake => exact h.execPainterTake
  | _ => exact leaves (by simp [Aspect.placing, Aspect.Names]) nofun

end

/-- Settles O56: a step carries out one command or event, and each keeps the Claim Map sound. -/
theorem claimsStaySound : Obligations.ClaimsStaySound := by
  intro s t h hstep
  unfold step at hstep
  split at hstep
  · exact Host.Outcome.next.inj hstep ▸ h.claims
  · exact ((h.of_pending _).exec_claimsSound _).next hstep

end Sys2Proof.Machine
end

section
/-!
PROOFS, counts and settings in their ranges (O53, R89, R161, R178, R180): the alert list has room for 16 entries whatever evaluates,
and no other operation on records touches a count.
-/

namespace Sys2Proof.Machine

/-! ## The alert list (R89) -/

theorem entered_length {es : List AlertEntry} (h : es.length ≤ 16) (e : AlertEntry) : (entered es e).length ≤ 16 := by
  unfold entered
  split
  · exact (List.length_map _).symm ▸ h
  · split
    · next hroom => simpa using hroom
    · exact h

/-- From `s` to `t` the alert list stays within its 16 entries. -/
def State.AlertsFit (s t : State) : Prop := s.alerts.length ≤ 16 → t.alerts.length ≤ 16

namespace State.AlertsFit

theorem of_sublist {s t : State} (h : t.alerts.Sublist s.alerts) : s.AlertsFit t := fun hs => h.length_le.trans hs

theorem of_eq {s t : State} (h : t.alerts = s.alerts) : s.AlertsFit t := .of_sublist (h ▸ .refl _)

theorem trans {s t u : State} (hst : s.AlertsFit t) (htu : t.AlertsFit u) : s.AlertsFit u := htu ∘ hst

/-- A fold whose every step stays within; `state` finds the state in what is folded. -/
theorem foldl_of {σ β : Type} (state : σ → State) {f : σ → β → σ} (step : ∀ a b, (state a).AlertsFit (state (f a b)))
    (l : List β) (a : σ) : (state a).AlertsFit (state (l.foldl f a)) :=
  List.foldlRecOn (motive := fun b => (state a).AlertsFit (state b)) l f id fun b fits x _ => fits.trans (step b x)

theorem foldl {β : Type} {f : State → β → State} (step : ∀ (s : State) b, s.AlertsFit (f s b)) (l : List β) (s : State) :
    s.AlertsFit (l.foldl f s) := foldl_of (fun s => s) step l s

end State.AlertsFit

section
variable (s : State) (k : Nat)

theorem State.evaluateBand_fits : s.AlertsFit (s.evaluateBand k) := fun h => by
  rw [State.evaluateBand_frame]
  dsimp only
  split
  · exact entered_length h _
  · exact h

theorem State.updSlot_evaluateBand_fits (f : Record → Record) : s.AlertsFit ((s.updSlot k f).evaluateBand k) :=
  State.evaluateBand_fits (s.updSlot k f) k

theorem State.updSlot_fits (f : Record → Record) : s.AlertsFit (s.updSlot k f) := .of_eq rfl

theorem State.becomeDue_fits : s.AlertsFit (s.becomeDue k) := .of_eq (by rw [(s.becomeDue_spec k).2])

theorem State.joinGroup_fits (due : List Nat) : s.AlertsFit (s.joinGroup due) := .foldl State.becomeDue_fits _ s

theorem fanNet_fits (v : Int) (a : TickAcc) : a.state.AlertsFit (fanNet v a k).state := by
  cases hreference : (a.state.slot k).reference with
  | some reference =>
    rw [fanNet_eq_of_some hreference]
    exact State.updSlot_evaluateBand_fits (a.withOperand k v).state k _
  | none =>
    rw [fanNet_eq_of_none hreference]
    exact .of_eq rfl

theorem fanExtreme_fits (v : Int) (beats : Int → Bool) (d : Direction) (a : TickAcc) :
    a.state.AlertsFit (fanExtreme v beats d a k).state := by
  unfold fanExtreme
  split
  · exact a.state.updSlot_evaluateBand_fits k _
  · split
    · exact a.state.updSlot_evaluateBand_fits k _
    · exact .of_eq rfl

theorem fanOut_fits (instrument : Nat) (v : Int) (a : TickAcc) : a.state.AlertsFit (fanOut s instrument v a).state := by
  simp only [fanOut, fanHigh_eq, fanLow_eq]
  exact ((State.AlertsFit.foldl_of TickAcc.state (fun a k => fanNet_fits k v a) _ a).trans
    (.foldl_of TickAcc.state (fun a k => fanExtreme_fits k v _ _ a) _ _)).trans
    (.foldl_of TickAcc.state (fun a k => fanExtreme_fits k v _ _ a) _ _)

theorem State.clearGuard_fits (mirrors : List Nat) : s.AlertsFit (s.clearGuard mirrors) := by
  have marks (t : State) : t.AlertsFit (mirrors.foldl (fun t k => t.updSlot k (fun r => { r with suspect := false })) t) :=
    .foldl (fun t k => t.updSlot_fits k _) mirrors t
  cases mirrors with
  | nil => exact marks s
  | cons lead others => exact marks (s.updSlot lead _)

theorem State.holdPrint_fits (lead : Nat) (mirrors : List Nat) (v : Int) : s.AlertsFit (s.holdPrint lead mirrors v) :=
  State.AlertsFit.foldl (fun t k => t.updSlot_fits k _) mirrors (s.updSlot lead _)

theorem acceptTick_fits (a : TickAcc) (instrument : Nat) (kind : Kind) (v : Int) (d : Direction) :
    a.state.AlertsFit (acceptTick a instrument kind v d).state := by
  have applied : a.state.AlertsFit _ := (a.state.clearGuard_fits (a.state.mirrors instrument kind)).trans
    (.foldl_of TickAcc.state (f := fun a k => a.apply k v d) (fun a k => a.state.updSlot_evaluateBand_fits k _)
      (a.state.mirrors instrument kind) { a with state := a.state.clearGuard (a.state.mirrors instrument kind) })
  simp only [acceptTick]
  split
  · exact applied.trans (fanOut_fits _ _ _ _)
  · exact applied

theorem evaluateTick_fits (a : TickAcc) (instrument : Nat) (kind : Kind) (value : Int) :
    a.state.AlertsFit (evaluateTick a instrument kind value).2.state := by
  simp only [evaluateTick]
  split
  · split
    · exact acceptTick_fits { a with updated := 0 } _ _ _ _
    · exact .of_eq rfl
  · split
    · exact a.state.holdPrint_fits _ _ _
    · exact acceptTick_fits { a with updated := 0 } _ _ _ _

theorem evaluateTicks_fits (instrument : Nat) (values : List (Kind × Int)) (a : TickAcc) (out : List Byte) :
    a.state.AlertsFit (evaluateTicks instrument values a out).1.state := by
  induction values generalizing a out with
  | nil => exact .of_eq rfl
  | cons value rest ih => exact (evaluateTick_fits a instrument value.1 value.2).trans (ih _ _)

theorem State.retire_fits : s.AlertsFit (s.retire k) := .of_sublist ((s.retire_lists k).1 ▸ List.filter_sublist)

theorem State.defer_fits : s.AlertsFit (s.defer k) := .of_eq rfl

theorem State.resume_fits : s.AlertsFit (s.resume k) := .of_eq rfl

theorem State.reclaim_fits : s.AlertsFit (s.reclaim k) := by
  unfold State.reclaim
  split
  · exact .of_eq rfl
  · exact .trans (.of_eq (by rw [(State.claimAll_spec _ _ _).2]; rfl)) (State.becomeDue_fits _ k)

end

/-! ## What a body may do to the counts and the job in hand -/

/-- `t` has its counts and settings in range and the Painter's job of `s`. -/
structure State.KeepsCounts (s t : State) : Prop where
  bounded : t.Bounded
  painter : t.ptr.painter = s.ptr.painter

section
variable {s t u : State}

theorem State.Bounded.keeps_self (h : s.Bounded) : s.KeepsCounts s := ⟨h, rfl⟩

/-- What changes records at most keeps the counts when the alert list stays within its entries. -/
theorem State.KeepsCounts.records (h : s.KeepsCounts t) (only : t.RecordsOnly u) (fits : t.AlertsFit u) : s.KeepsCounts u := by
  have hfits := fits h.bounded.alerts
  rw [State.RecordsOnly] at only
  rw [only] at hfits ⊢
  exact ⟨{ h.bounded with alerts := hfits }, h.painter⟩

theorem State.KeepsCounts.setPanel (h : s.KeepsCounts t) (p : Nat) (e : Option Panel) : s.KeepsCounts (t.setPanel p e) :=
  ⟨{ h.bounded with }, h.painter⟩

theorem State.KeepsCounts.joinGroup (h : s.KeepsCounts t) (due : List Nat) : s.KeepsCounts (t.joinGroup due) :=
  h.records (t.joinGroup_recordsOnly due) (t.joinGroup_fits due)

/-- The treatment of the records still to be moved (R120). -/
theorem State.KeepsCounts.moveNext (h : s.KeepsCounts t) (m : Message) (p cleared : Nat) (records : List Nat) :
    s.KeepsCounts (moveNext m p cleared records t) := by
  induction records generalizing t with
  | nil => exact ⟨{ h.bounded with }, h.painter⟩
  | cons k rest ih =>
    unfold Machine.moveNext
    split
    · exact ih (h.records (t.reclaim_recordsOnly k) (t.reclaim_fits k))
    · exact ⟨{ h.bounded with }, h.painter⟩

end

end Sys2Proof.Machine
end

section
/-!
PROOFS, the writes asked for (O53, R146, R149, R120, R174, R175): each is into a cell of the store with an index 0..63, because spans lie inside pages, cells are listed inside rectangles, and banks map to 0..63.
-/

namespace Sys2Proof.Machine

/-- A write into a cell of the store, with an index 0..63 (R172, R124). -/
def CellWrite.InRange (w : CellWrite) : Prop := w.cell < 26400 ∧ w.attr ≤ 63

/-- The writes not yet granted of the Painter's job. -/
def Painter.writes : Painter → List CellWrite
  | .idle => []
  | .painting _ _ _ _ ws => ws
  | .clearing _ ws => ws

/-- The writes not yet granted of the message in execution. -/
def Mdc.writes : Mdc → List CellWrite
  | .idle => []
  | .writing _ ws => ws
  | .moving _ _ _ _ ws _ => ws
  | .syncing _ _ _ => []

theorem State.ungranted_eq (s : State) : s.ungranted = s.ptr.painter.writes ++ s.mdc.writes := by
  unfold State.ungranted Painter.writes Mdc.writes
  cases s.ptr.painter <;> cases s.mdc <;> rfl

def Painter.InRange (painter : Painter) : Prop := ∀ w ∈ painter.writes, w.InRange

/-- MDC asks for writes in range, a PANEL_MOVE with a CLEARED index in range (R128). -/
def Mdc.InRange (mdc : Mdc) : Prop :=
  (∀ w ∈ mdc.writes, w.InRange) ∧ ∀ m p a k ws rest, mdc = .moving m p a k ws rest → a ≤ 63

theorem Painter.idle_inRange : Painter.idle.InRange := fun w (hw : w ∈ []) => by cases hw

theorem Mdc.idle_inRange : Mdc.idle.InRange := ⟨nofun, nofun⟩

theorem Mdc.syncing_inRange (m : Message) (job : Bool) (slots : List Nat) : (Mdc.syncing m job slots).InRange :=
  ⟨nofun, nofun⟩

theorem Mdc.writing_inRange {ws : List CellWrite} (h : ∀ w ∈ ws, w.InRange) (m : Message) : (Mdc.writing m ws).InRange :=
  ⟨h, nofun⟩

theorem Mdc.moving_inRange {ws : List CellWrite} (h : ∀ w ∈ ws, w.InRange) {cleared : Nat} (hcleared : cleared ≤ 63)
    (m : Message) (p k : Nat) (rest : List Nat) : (Mdc.moving m p cleared k ws rest).InRange :=
  ⟨h, fun _ _ _ _ _ _ heq => by cases heq; exact hcleared⟩

section
variable {s : State} (h : s.InRange)
include h

theorem State.InRange.painter : s.ptr.painter.InRange := fun w hw =>
  h.ungranted w (s.ungranted_eq ▸ List.mem_append_left _ hw)

theorem State.InRange.mdc : s.mdc.InRange :=
  ⟨fun w hw => h.ungranted w (s.ungranted_eq ▸ List.mem_append_right _ hw), h.clearedIndex⟩

end

/-- The promises about the writes asked for, from those about the two units that ask. -/
theorem State.jobs_inRange (s : State) (painter : s.ptr.painter.InRange) (mdc : s.mdc.InRange) :
    (∀ w ∈ s.ungranted, w.cell < 26400 ∧ w.attr ≤ 63) ∧ ∀ m p a k ws rest, s.mdc = .moving m p a k ws rest → a ≤ 63 :=
  ⟨s.ungranted_eq ▸ List.forall_mem_append.2 ⟨painter, mdc.1⟩, mdc.2⟩

/-! ## Cells and indices -/

theorem cellNumber_lt {page row col : Nat} (hpage : page ≤ 3) (hrow : row < 50) (hcol : col < 132) :
    cellNumber page row col < 26400 := by
  simp only [cellNumber]
  omega

section
variable {s : State}

/-- Every claimed cell lies in the span of a record inside its page. -/
theorem State.ClaimsSound.claims_inRange (h : s.ClaimsSound) {c : Nat} (hc : 26400 ≤ c) : s.claim c = none := by
  refine Option.eq_none_iff_forall_ne_some.2 fun k hk => ?_
  obtain ⟨hstate, hspan⟩ := h.owner c k hk
  obtain ⟨hpage, hrow, hcol⟩ := h.inPage k hstate
  obtain ⟨i, hi, rfl⟩ := mem_spanCells.1 hspan
  have := cellNumber_lt hpage hrow (col := (s.slot k).col + i) (by omega)
  omega

/-- The blanks of a record's claimed cells, as a clear job or a move asks for them (R149, R120). -/
theorem State.blanks_inRange (claims : s.ClaimsSound) {k index : Nat} (hindex : index ≤ 63) :
    ∀ w ∈ s.vacatingWrites k index, w.InRange := by
  intro w hw
  obtain ⟨c, hc, rfl⟩ := List.mem_map.1 hw
  have hclaim : s.claim c = some k := by simpa using (List.mem_filter.1 hc).2
  refine ⟨Nat.lt_of_not_le fun hle => ?_, hindex⟩
  rw [claims.claims_inRange hle] at hclaim
  cases hclaim

/-- The write list of a LIVE job of a record inside its page (R146). -/
theorem paintWrites_inRange (banks : ∀ bank c, s.scheme bank c ≤ 63) (bank : Bank) {sn : Snapshot} (string : List Byte) (overflow : Bool)
    (mask : List Nat) (hplace : sn.page ≤ 3 ∧ sn.row < 50 ∧ sn.col + sn.width ≤ 132) :
    ∀ w ∈ paintWrites s bank sn string overflow mask, w.InRange := by
  intro w hw
  obtain ⟨i, hi, rfl⟩ := List.mem_map.1 hw
  have hi := List.mem_range.1 hi
  exact ⟨cellNumber_lt hplace.1 hplace.2.1 (by omega), banks _ _⟩

/-! ### Static text (R173 to R175) -/

/-- The area that a TEXT or FILL names lies inside its page. -/
def TextTarget.Inside (t : TextTarget) : Prop := t.page ≤ 3 ∧ t.row + t.height ≤ 50 ∧ t.col + t.width ≤ 132

theorem TextTarget.Inside.cell_lt {t : TextTarget} (h : t.Inside) {r c : Nat} (hr : r < t.height) (hc : c < t.width) :
    t.cell r c < 26400 := by
  obtain ⟨hpage, hrow, hcol⟩ := h
  exact cellNumber_lt hpage (by omega) (by omega)

theorem textTarget_inside (h : s.InRange) {target page : Nat} {t : TextTarget} (ht : textTarget s target page = .ok t) :
    t.Inside := by
  unfold textTarget at ht
  split at ht
  · split at ht
    · next hpage =>
      cases ht
      exact ⟨hpage, Nat.le_refl 50, Nat.le_refl 132⟩
    · cases ht
  · split at ht
    · cases ht
    · split at ht
      · cases ht
      · next e hpanel =>
        cases ht
        have inside := h.rectangles _ e hpanel
        exact ⟨inside.page, inside.height.2, inside.width.2⟩

theorem textWrites_inRange {t : TextTarget} (h : t.Inside) {r attr : Nat} (hr : r < t.height) (hattr : attr ≤ 63) (c : Nat)
    (chars : List Byte) : ∀ w ∈ textWrites t r c attr chars, w.InRange := by
  intro w hw
  obtain ⟨i, hi, rfl⟩ := List.mem_map.1 hw
  have hi := List.mem_range.1 hi
  exact ⟨h.cell_lt hr (by omega), hattr⟩

theorem fillWrites_inRange {t : TextTarget} (h : t.Inside) {attr : Nat} (hattr : attr ≤ 63) (r c height width : Nat) (char : Byte) :
    ∀ w ∈ fillWrites t r c height width attr char, w.InRange := by
  intro w hw
  obtain ⟨i, hi, hw⟩ := List.mem_flatMap.1 hw
  obtain ⟨j, hj, rfl⟩ := List.mem_map.1 hw
  have hi := List.mem_range.1 hi
  have hj := List.mem_range.1 hj
  exact ⟨h.cell_lt (by omega) (by omega), hattr⟩

/-! ### Moves (R120) -/

/-- A move goes on with writes in range, or has ended. -/
theorem moveNext_mdc_inRange {m : Message} {p cleared : Nat} {records : List Nat} (hcleared : cleared ≤ 63)
    (claims : (moveNext m p cleared records s).ClaimsSound) : (moveNext m p cleared records s).mdc.InRange := by
  have idle_or : (moveNext m p cleared records s).mdc = .idle
      ∨ ∃ k ws rest, (moveNext m p cleared records s).mdc = .moving m p cleared k ws rest
        ∧ ws = (moveNext m p cleared records s).vacatingWrites k cleared := by
    clear claims
    induction records generalizing s with
    | nil => exact .inl rfl
    | cons k rest ih =>
      cases hwrites : s.vacatingWrites k cleared with
      | nil =>
        simp only [moveNext, hwrites]
        exact ih
      | cons w ws =>
        simp only [moveNext, hwrites]
        exact .inr ⟨k, _, rest, rfl, hwrites.symm⟩
  rcases idle_or with hidle | ⟨k, ws, rest, hmoving, hws⟩
  · rw [hidle]
    exact Mdc.idle_inRange
  · rw [hmoving]
    exact Mdc.moving_inRange (hws ▸ State.blanks_inRange claims hcleared) hcleared ..

end

/-! ## What a body hands over -/

/-- A body keeps the counts and the Painter's job; what then goes on over later grants asks for writes in range. -/
def Verdict.Within (s : State) : Verdict → Prop
  | .refuse _ => True
  | .done u _ => s.KeepsCounts u
  | .goesOn u => s.KeepsCounts u ∧ u.mdc.InRange

theorem Verdict.Within.check {s : State} {r : Result} {v : Verdict} {fails : Prop} [Decidable fails]
    (h : ¬ fails → v.Within s) : (if fails then Verdict.refuse r else v).Within s := by
  split
  · trivial
  · next passes => exact h passes

theorem startWriting_within {s : State} (h : s.Bounded) {ws : List CellWrite} (hws : ∀ w ∈ ws, w.InRange) (m : Message) :
    (startWriting m ws s).Within s := by
  cases ws with
  | nil => exact h.keeps_self
  | cons w ws => exact ⟨⟨{ h with }, rfl⟩, Mdc.writing_inRange hws m⟩

theorem Command.body_within {s : State} (h : s.Bounded) (inRange : s.InRange) (queue : s.QueueSound) (places : s.PlacesSound [])
    (c : Command) (m : Message) : (c.body m s).Within s := by
  have unchanged : s.KeepsCounts s := h.keeps_self
  cases c with
  | bind =>
    simp only [Command.body, bindBody]
    split
    · trivial
    · next b _ => exact unchanged.records (bindApply_recordsOnly s b) (.of_eq (by rw [bindApply_frame]))
  | amend =>
    simp only [Command.body, amendBody]
    split
    · trivial
    · exact unchanged.records (amendApply_recordsOnly s _ _)
        ((s.updSlot_evaluateBand_fits _ _).trans (State.becomeDue_fits _ _))
  | retire =>
    refine .check fun _ => ?_
    split
    · exact unchanged.records (s.retire_recordsOnly _) (s.retire_fits _)
    · trivial
  | lookup =>
    refine .check fun _ => ?_
    split
    · trivial
    · split
      · trivial
      · exact unchanged
  | probe =>
    refine .check fun _ => ?_
    split <;> exact unchanged
  | tick =>
    refine .check fun _ => ?_
    split
    · trivial
    · exact .check fun _ =>
        (unchanged.records (evaluateTick_recordsOnly ⟨s, [], 0⟩ _ _ _) (evaluateTick_fits ⟨s, [], 0⟩ _ _ _)).joinGroup _
  | qtick =>
    exact .check fun _ => .check fun _ => .check fun _ =>
      (unchanged.records (evaluateTicks_recordsOnly _ _ ⟨s, [], 0⟩ _) (evaluateTicks_fits _ _ ⟨s, [], 0⟩ _)).joinGroup _
  | refer =>
    exact .check fun _ => .check fun _ => (unchanged.records (.foldl (fun t k => t.referSlot_recordsOnly k _) _ s)
      (.foldl (fun t k => t.updSlot_evaluateBand_fits k _) _ s)).joinGroup _
  | extremesClear =>
    exact .check fun _ => (unchanged.records (.foldl (fun t k => t.restartSlot_recordsOnly k _) _ s)
      (.foldl (fun t k => t.updSlot_evaluateBand_fits k _) _ s)).joinGroup _
  | stale =>
    exact .check fun _ => (unchanged.records (.foldl (fun t k => t.updSlot_recordsOnly k _) _ s)
      (.foldl (fun t k => t.updSlot_fits k _) _ s)).joinGroup _
  | alerts => exact .check fun _ => ⟨{ h with alerts := (List.drop_sublist _ _).length_le.trans h.alerts }, rfl⟩
  | panelOpen =>
    refine .check fun _ => .check fun _ => .check fun _ => .check fun _ => ?_
    split
    · trivial
    · exact .check fun _ => .check fun _ => ⟨{ h with }, rfl⟩
  | panelClose =>
    refine .check fun _ => .check fun _ => ?_
    exact (unchanged.records (.foldl State.retire_recordsOnly _ s) (.foldl State.retire_fits _ s)).setPanel _ none
  | panelFreeze =>
    refine .check fun _ => ?_
    split
    · trivial
    · unfold Machine.panelFreeze
      split
      · exact unchanged
      · exact (unchanged.setPanel _ _).records (.foldl State.defer_recordsOnly _ _) (.foldl State.defer_fits _ _)
  | panelThaw =>
    refine .check fun _ => ?_
    split
    · trivial
    · unfold Machine.panelThaw
      split
      · exact (unchanged.setPanel _ _).records (.foldl State.resume_recordsOnly _ _) (.foldl State.resume_fits _ _)
      · exact unchanged
  | panelMove =>
    rcases panelMoveBody_cases m s with ⟨r, hbody⟩ | ⟨p, e, page, row, col, hpanel, hfrozen, hpage, hrow, hcol, hground, hbody⟩
    · rw [show Command.panelMove.body m s = _ from hbody]
      trivial
    · rw [show Command.panelMove.body m s = _ from hbody]
      have moved := places.panelMove inRange queue m hpanel hfrozen hpage hrow hcol hground
      have cleared : s.cleared ≤ 63 := (inRange.banks .a 15).1
      unfold Machine.panelMove at moved ⊢
      exact ⟨(unchanged.setPanel _ _).moveNext _ _ _ _, moveNext_mdc_inRange cleared moved⟩
  | attrSet => exact .check fun _ => .check fun _ => .check fun _ => .check fun _ => ⟨{ h with }, rfl⟩
  | schemeSet =>
    simp only [Command.body, schemeSetBody]
    split
    · trivial
    · next bank _ =>
      refine .check fun _ => .check fun _ => State.KeepsCounts.joinGroup ?_ _
      cases bank <;> exact ⟨{ h with }, rfl⟩
  | schemeSwap => exact State.KeepsCounts.joinGroup (s := s) (t := s.swapBanks) ⟨{ h with }, rfl⟩ _
  | text =>
    simp only [Command.body, textBody]
    split
    · trivial
    · next t ht =>
      exact .check fun hstart => .check fun hattr => startWriting_within h
        (textWrites_inRange (textTarget_inside inRange ht) (by omega) (by omega) _ _) m
  | fill =>
    simp only [Command.body, fillBody]
    split
    · trivial
    · next t ht =>
      exact .check fun _ => .check fun _ => .check fun hattr => startWriting_within h
        (fillWrites_inRange (textTarget_inside inRange ht) (by omega) _ _ _ _ _) m
  | showPage =>
    exact .check fun hpage => ⟨{ h with pendingPage := fun p hp => Option.some.inj hp ▸ Nat.not_lt.1 hpage }, rfl⟩
  | pattern => exact .check fun _ => ⟨{ h with }, rfl⟩
  | glyphLoad => exact .check fun _ => ⟨{ h with }, rfl⟩
  | status => exact ⟨{ h with }, rfl⟩
  | config =>
    have frames (i : Nat) : 1 ≤ max 1 (u8 m.params i) ∧ max 1 (u8 m.params i) ≤ 255 :=
      ⟨Nat.le_max_left .., Nat.max_le.2 ⟨by decide, Nat.le_of_lt_succ (u8_lt _ i)⟩⟩
    exact .check fun _ => ⟨{ h with
      flashFrames := frames 0, alertFrames := frames 1, threshold := Nat.min_le_left .. }, rfl⟩
  | sync =>
    simp only [Command.body, syncBody]
    split
    · exact unchanged
    · exact ⟨⟨{ h with }, rfl⟩, Mdc.syncing_inRange ..⟩

end Sys2Proof.Machine
end

section
/-!
PROOFS, counts, settings and the writes asked for, at every command and event (O53).
-/

namespace Sys2Proof.Machine

/-- Counts and settings in range, and the jobs in hand asking for writes in range. -/
structure State.Contained (s : State) : Prop where
  bounded : s.Bounded
  painter : s.ptr.painter.InRange
  mdc : s.mdc.InRange

section
variable {s t : State}

theorem State.Sound.contained (h : s.Sound) : s.Contained := ⟨h.bounded, h.inRange.painter, h.inRange.mdc⟩

/-- What leaves the alert list, AGU and DOU keeps the counts. -/
theorem State.Bounded.of_same (h : s.Bounded) (alerts : t.alerts = s.alerts) (agu : t.agu = s.agu) (dou : t.dou = s.dou) :
    t.Bounded where
  alerts := alerts ▸ h.alerts
  owed := agu ▸ h.owed
  flashFrames := agu ▸ h.flashFrames
  alertFrames := agu ▸ h.alertFrames
  threshold := agu ▸ h.threshold
  shown := dou ▸ h.shown
  pendingPage := dou ▸ h.pendingPage
  blink := dou ▸ h.blink
  nextRow := dou ▸ h.nextRow

theorem State.Bounded.linkOnly (h : s.Bounded) (link : s.LinkOnly t) : t.Bounded := by
  rw [State.LinkOnly] at link
  exact h.of_same (by rw [link]) (by rw [link]) (by rw [link])

theorem State.LinkOnly.ptr (link : s.LinkOnly t) : t.ptr = s.ptr := by
  rw [State.LinkOnly] at link
  rw [link]

/-! ## Commands -/

theorem State.Sound.command_contained (h : s.Sound) (c : Command) : Step.Leads State.Contained (exec c.instr s) := by
  rw [exec_instr]
  rcases runCommand_cases c c.body s with same | ⟨m, reply, ready⟩
  · exact same.symm ▸ h.contained
  · have places : s.PlacesSound [] := State.unmoved_of_move_none ready.move_none ▸ (State.claimsSound_iff.1 h.claims).1
    have within := Command.body_within (s := s.taken reply) { h.bounded with } { h.inRange with } { h.queue with }
      { places with } c m
    have answered (r : Result) : (s.answered m reply r []).Contained :=
      ⟨{ h.bounded with }, h.inRange.painter, Mdc.idle_inRange⟩
    rw [runCommand_ready ready]
    split
    · cases hverdict : c.body m (s.taken reply) with
      | refuse r => exact answered r
      | done u data =>
        have kept : (s.taken reply).KeepsCounts u := (hverdict ▸ within : (Verdict.done u data).Within _)
        exact ⟨{ kept.bounded with }, (congrArg Painter.InRange kept.painter).mpr h.inRange.painter, Mdc.idle_inRange⟩
      | goesOn u =>
        obtain ⟨kept, asks⟩ : (s.taken reply).KeepsCounts u ∧ u.mdc.InRange :=
          (hverdict ▸ within : (Verdict.goesOn u).Within _)
        exact ⟨kept.bounded, (congrArg Painter.InRange kept.painter).mpr h.inRange.painter, asks⟩
    · exact answered .badLen

/-! ## The events of the link -/

/-- MDC is as it was, or has ended an execution. -/
def State.MdcStaysOrEnds (s t : State) : Prop := t.mdc = s.mdc ∨ t.mdc = .idle

theorem execAssemblerTake_mdc (s : State) : Step.Leads (fun t => t.mdc = s.mdc) (execAssemblerTake s) := by
  cases hinbound : s.lki.inbound with
  | nil => simp only [execAssemblerTake, hinbound, Step.Leads]
  | cons e rest =>
    cases hgo : !s.resetLow && s.lki.held.isNone with
    | true =>
      obtain ⟨hreset, hheld⟩ : s.resetLow = false ∧ s.lki.held = none := by simpa using hgo
      rw [execAssemblerTake_takes hreset hheld hinbound]
      rfl
    | false =>
      simp only [execAssemblerTake, hinbound, hgo]
      rfl

theorem exec_link_mdc {i : Instr} (h : linkEvent i = true) (s : State) : Step.Leads s.MdcStaysOrEnds (exec i s) := by
  have receiver (before next : RxState) : s.MdcStaysOrEnds (rxStep before next s) := .inl (by unfold rxStep; split <;> rfl)
  cases i with
  | settleEnd | startBitFall | falseStart | awaitHighExit => exact receiver _ _
  | resetRelease strap =>
    simp only [exec, execResetRelease]
    split <;> exact .inl rfl
  | addressCharacter v parity stop =>
    simp only [exec, execAddressCharacter, State.addressReceived_eq]
    split <;> exact .inl rfl
  | dataCharacter v parity stop =>
    simp only [exec, execDataCharacter, State.dataReceived]
    split
    · split
      · exact .inl rfl
      · split <;> exact .inl rfl
    · exact .inl rfl
  | breakEvent =>
    simp only [exec, execBreak]
    split <;> exact .inl rfl
  | assemblerTake => exact (execAssemblerTake_mdc s).mono fun _ => .inl
  | discardNoticeTake =>
    simp only [exec, execDiscardNoticeTake]
    split
    · split
      · exact .inr rfl
      · exact .inl rfl
    · exact .inl rfl
  | unknownCommand =>
    simp only [exec, execUnknownCommand]
    split
    · split
      · exact .inr rfl
      · exact .inl rfl
    · exact .inl rfl
  | replyStart high =>
    simp only [exec, execReplyStart]
    split
    · split
      · split <;> exact .inl rfl
      · exact .inl rfl
    · exact .inl rfl
  | replyEnd =>
    simp only [exec, execReplyEnd]
    split
    · split <;> exact .inl rfl
    · exact .inl rfl
  | replyCutShort =>
    simp only [exec, execReplyCutShort]
    split <;> exact .inl rfl
  | _ => exact absurd h Bool.false_ne_true

theorem State.Contained.link (h : s.Contained) {i : Instr} (hi : linkEvent i = true) :
    Step.Leads State.Contained (exec i s) := by
  cases hexec : exec i s with
  | next t =>
    have link := (exec_linkOnly hi s).next hexec
    refine ⟨h.bounded.linkOnly link, link.ptr.symm ▸ h.painter, ?_⟩
    rcases (exec_link_mdc hi s).next hexec with hmdc | hmdc
    · exact hmdc ▸ h.mdc
    · exact hmdc ▸ Mdc.idle_inRange
  | fault f => trivial
  | refused r => trivial

/-! ## Grants -/

/-- The end of a job shrinks the fence of a SYNC at most (R158). -/
theorem State.Contained.jobEnded (h : s.Contained) (k : Nat) : (s.jobEnded k).Contained := by
  have link := s.jobEnded_linkOnly k
  refine ⟨h.bounded.linkOnly link, link.ptr.symm ▸ h.painter, ?_⟩
  cases hmdc : s.mdc with
  | syncing m job slots =>
    simp only [State.jobEnded, hmdc]
    generalize (if job then slots else slots.filter (· != k)) = rest
    split
    · exact Mdc.idle_inRange
    · exact Mdc.syncing_inRange ..
  | _ =>
    simp only [State.jobEnded, hmdc]
    exact hmdc ▸ h.mdc

/-- A granted write changes cells, claims and the mark. -/
def State.Written (s t : State) : Prop :=
  t = { s with ftb := { s.ftb with claims := t.ftb.claims }, cst := t.cst }

theorem State.Contained.written (h : s.Contained) (written : s.Written t) : t.Contained := by
  rw [State.Written] at written
  rw [written]
  exact ⟨{ h.bounded with }, h.painter, h.mdc⟩

theorem State.paintWrite_written (s : State) (k : Nat) (w : CellWrite) (q : Requester) :
    s.Written ((s.paintWrite k w).setMark q) := by
  unfold State.paintWrite
  split <;> rfl

theorem State.clearWrite_written (s : State) (k : Nat) (w : CellWrite) (q : Requester) :
    s.Written ((s.clearWrite k w).setMark q) := by
  unfold State.clearWrite
  split <;> rfl

theorem State.textWrite_written (s : State) (w : CellWrite) (q : Requester) : s.Written ((s.textWrite w).setMark q) := by
  unfold State.textWrite
  split <;> rfl

theorem State.Contained.paintEnded (h : s.Contained) (k : Nat) (string : List Byte) : (s.paintEnded k string).Contained := by
  refine State.Contained.jobEnded ?_ k
  exact ⟨{ h.bounded with }, Painter.idle_inRange, h.mdc⟩

theorem State.Contained.execPaintWriteGrant (h : s.Contained) : Step.Leads State.Contained (execPaintWriteGrant s) := by
  unfold Machine.execPaintWriteGrant
  split
  · next k sn bank string w ws hpainter =>
    split
    · have written := h.written (s.paintWrite_written k w .ptr)
      have asks : ∀ v ∈ ws, v.InRange := fun v hv => h.painter v (hpainter ▸ List.mem_cons_of_mem w hv)
      dsimp only
      split
      · exact written.paintEnded k string
      · exact ⟨{ written.bounded with }, asks, written.mdc⟩
    · exact h
  · exact h

theorem State.Contained.clearEnded (h : s.Contained) (k : Nat) : (s.clearEnded k).Contained :=
  State.Contained.jobEnded (s := s.emptied k) ⟨{ h.bounded with }, Painter.idle_inRange, h.mdc⟩ k

theorem State.Contained.execClearWriteGrant (h : s.Contained) : Step.Leads State.Contained (execClearWriteGrant s) := by
  unfold Machine.execClearWriteGrant
  split
  · next k w ws hpainter =>
    split
    · have written := h.written (s.clearWrite_written k w .ptr)
      have asks : ∀ v ∈ ws, v.InRange := fun v hv => h.painter v (hpainter ▸ List.mem_cons_of_mem w hv)
      dsimp only
      split
      · exact written.clearEnded k
      · exact ⟨{ written.bounded with }, asks, written.mdc⟩
    · exact h
  · exact h

theorem State.Contained.execTextWriteGrant (h : s.Contained) : Step.Leads State.Contained (execTextWriteGrant s) := by
  unfold Machine.execTextWriteGrant
  split
  · next m w ws hmdc =>
    split
    · have written := h.written (s.textWrite_written w .mdc)
      have asks : ∀ v ∈ ws, v.InRange := fun v hv => h.mdc.1 v (hmdc ▸ List.mem_cons_of_mem w hv)
      dsimp only
      split
      · exact ⟨{ written.bounded with }, written.painter, Mdc.idle_inRange⟩
      · exact ⟨{ written.bounded with }, written.painter, Mdc.writing_inRange asks m⟩
    · exact h
  · exact h

/-- VACATE_WRITE_GRANT, whose next move waits for writes of claimed cells (R121). -/
theorem State.Sound.execVacateWriteGrant_contained (h : s.Sound) : Step.Leads State.Contained (Machine.execVacateWriteGrant s) := by
  have claims := h.execVacateWriteGrant
  unfold Machine.execVacateWriteGrant at claims ⊢
  split
  · next m p cleared k w ws rest hmdc =>
    have hcleared : cleared ≤ 63 := h.inRange.clearedIndex _ _ _ _ _ _ hmdc
    have asks : ∀ v ∈ ws, v.InRange := fun v hv => h.contained.mdc.1 v (hmdc ▸ List.mem_cons_of_mem w hv)
    have written := h.contained.written (s.clearWrite_written k w .mdc)
    simp only [hmdc] at claims
    split
    · next hgrant =>
      simp only [hgrant, if_true] at claims
      split
      · next hlast =>
        simp only [hlast, if_true] at claims
        have counts := (written.bounded.keeps_self.records (State.reclaim_recordsOnly _ k)
          (State.reclaim_fits _ k)).moveNext m p cleared rest
        exact ⟨counts.bounded, (congrArg Painter.InRange counts.painter).mpr written.painter,
          moveNext_mdc_inRange hcleared claims⟩
      · exact ⟨{ written.bounded with }, written.painter, Mdc.moving_inRange asks hcleared ..⟩
    · exact h.contained
  · exact h.contained

/-! ## The Painter's takes -/

/-- A LIVE job asks for writes of the record's span (R145, R146). -/
theorem State.Contained.takeLive (h : s.Contained) (banks : ∀ bank c, s.scheme bank c ≤ 63) {k : Nat}
    (hplace : (s.slot k).page ≤ 3 ∧ (s.slot k).row < 50 ∧ (s.slot k).col + (s.slot k).width ≤ 132) :
    (s.takeLive k).Contained := by
  have asks (string : List Byte) (overflow : Bool) (mask : List Nat) := paintWrites_inRange banks
    (s.bankOf (s.slot k).panel) (sn := (s.slot k).snapshot) string overflow mask hplace
  simp only [State.takeLive]
  split <;> exact ⟨{ h.bounded with }, asks _ _ _, h.mdc⟩

theorem State.Contained.takeClear (h : s.Contained) (banks : ∀ bank c, s.scheme bank c ≤ 63) (claims : s.ClaimsSound) (k : Nat) :
    (s.takeClear k).Contained := by
  have asks : ∀ w ∈ s.clearWrites k, w.InRange := State.blanks_inRange claims (banks .a 15)
  unfold State.takeClear
  split
  · exact h.clearEnded k
  · exact ⟨{ h.bounded with }, asks, h.mdc⟩

theorem State.Sound.execPainterTake_contained (h : s.Sound) : Step.Leads State.Contained (Machine.execPainterTake s) := by
  unfold Machine.execPainterTake
  split
  · next k rest hqueue =>
    split
    · let t : State := { s.updSlot k (fun r => { r with queued := false }) with ptr := { s.ptr with queue := rest } }
      have contained : t.Contained := ⟨{ h.bounded with }, h.inRange.painter, h.inRange.mdc⟩
      have banks (bank : Bank) (c : Nat) : t.scheme bank c ≤ 63 := (h.inRange.banks bank c).1
      have claims : t.ClaimsSound :=
        { h.claims.of_keeps (s.updSlot_keeps (P := fun _ => False) k (f := fun r => { r with queued := false }) rfl)
          fun _ _ => id with }
      split
      · next hlive =>
        refine contained.takeLive banks (claims.inPage k ?_)
        have slot : (t.slot k).state = .live :=
          (congrArg Record.state ((s.slot_updSlot k (fun r => { r with queued := false }) k).trans (if_pos rfl))).trans hlive
        rw [slot]
        nofun
      · exact contained.takeClear banks claims k
      · trivial
    · exact h.contained
  · exact h.contained

/-! ## Frames and the sweep -/

/-- A frame start shows a page that SHOW has checked, counts the blink counter up modulo 32 and the owed sweeps up to 8 (R177, R162). -/
theorem State.Contained.execFrameStart (h : s.Contained) : Step.Leads State.Contained (execFrameStart s) := by
  have shown : s.dou.pendingPage.getD s.dou.shown ≤ 3 := by
    cases hpending : s.dou.pendingPage with
    | none => exact h.bounded.shown
    | some p => exact h.bounded.pendingPage p hpending
  have started : State.Contained { s with dou := s.dou.frameStart s.atu.attrs } := ⟨{ h.bounded with
    shown := shown
    pendingPage := nofun
    blink := Nat.le_of_lt_succ (Nat.mod_lt _ (by decide))
    nextRow := fun r hr => Option.some.inj hr ▸ Nat.zero_le 50 }, h.painter, h.mdc⟩
  unfold Machine.execFrameStart
  split
  · exact h
  · unfold State.oweSweep
    split
    · next howed => exact ⟨{ started.bounded with owed := howed }, started.painter, started.mdc⟩
    · exact ⟨{ started.bounded with }, started.painter, started.mdc⟩

theorem State.Contained.execRowRead (h : s.Contained) : Step.Leads State.Contained (execRowRead s) := by
  unfold Machine.execRowRead
  split
  · next row _ =>
    split
    · next hrow =>
      have hrow : row < 50 := by simpa using (Bool.and_eq_true_iff.1 hrow).2
      exact ⟨{ h.bounded with nextRow := fun r hr => Option.some.inj hr ▸ hrow }, h.painter, h.mdc⟩
    · exact h
  · exact h

theorem State.Contained.ageAll (h : s.Contained) : s.ageAll.Contained := by
  have ages := State.RecordsOnly.foldl (fun t k => t.updSlot_recordsOnly k (fun r => r.aged s.agu.owed))
    (allSlots.filter (fun k => 0 < (s.slot k).age)) s
  have fits := State.AlertsFit.foldl (fun t k => t.updSlot_fits k (fun r => r.aged s.agu.owed))
    (allSlots.filter (fun k => 0 < (s.slot k).age)) s
  simp only [State.ageAll]
  generalize (allSlots.filter (fun k => 0 < (s.slot k).age)).foldl _ s = t at ages fits ⊢
  have kept := h.bounded.keeps_self.records ages fits
  exact ⟨{ kept.bounded with owed := Nat.zero_le 8 }, (congrArg Painter.InRange kept.painter).mpr h.painter,
    (congrArg Mdc.InRange ages.mdc).mpr h.mdc⟩

theorem State.Contained.execSweep (h : s.Contained) : Step.Leads State.Contained (execSweep s) := by
  unfold Machine.execSweep
  split
  · have aged := h.ageAll
    have joined := aged.bounded.keeps_self.joinGroup (s.sweepEnds s.agu.owed)
    exact ⟨joined.bounded, (congrArg Painter.InRange joined.painter).mpr aged.painter, (State.joinGroup_mdc _ _).symm ▸ aged.mdc⟩
  · exact h

/-! ## Every command and event -/

theorem State.reset_bounded : State.reset.Bounded where
  alerts := by decide
  owed := by decide
  flashFrames := by decide
  alertFrames := by decide
  threshold := by decide
  shown := by decide
  pendingPage := nofun
  blink := by decide
  nextRow := nofun

theorem State.reset_contained (pending : List Instr) : ({ State.reset with pending := pending } : State).Contained where
  bounded := { State.reset_bounded with }
  painter := Painter.idle_inRange
  mdc := Mdc.idle_inRange

theorem State.Sound.exec_contained (h : s.Sound) (i : Instr) : Step.Leads State.Contained (exec i s) := by
  have command {c : Command} (hc : c.instr = i) : Step.Leads State.Contained (exec i s) := hc ▸ h.command_contained c
  cases i with
  | powerOnReset => exact State.reset_contained s.pending
  | bind => exact command (c := .bind) rfl
  | amend => exact command (c := .amend) rfl
  | retire => exact command (c := .retire) rfl
  | lookup => exact command (c := .lookup) rfl
  | probe => exact command (c := .probe) rfl
  | tick => exact command (c := .tick) rfl
  | qtick => exact command (c := .qtick) rfl
  | refer => exact command (c := .refer) rfl
  | extremesClear => exact command (c := .extremesClear) rfl
  | stale => exact command (c := .stale) rfl
  | alerts => exact command (c := .alerts) rfl
  | panelOpen => exact command (c := .panelOpen) rfl
  | panelClose => exact command (c := .panelClose) rfl
  | panelFreeze => exact command (c := .panelFreeze) rfl
  | panelThaw => exact command (c := .panelThaw) rfl
  | panelMove => exact command (c := .panelMove) rfl
  | attrSet => exact command (c := .attrSet) rfl
  | schemeSet => exact command (c := .schemeSet) rfl
  | schemeSwap => exact command (c := .schemeSwap) rfl
  | text => exact command (c := .text) rfl
  | fill => exact command (c := .fill) rfl
  | showPage => exact command (c := .showPage) rfl
  | pattern => exact command (c := .pattern) rfl
  | glyphLoad => exact command (c := .glyphLoad) rfl
  | status => exact command (c := .status) rfl
  | config => exact command (c := .config) rfl
  | sync => exact command (c := .sync) rfl
  | vacateWriteGrant => exact h.execVacateWriteGrant_contained
  | textWriteGrant => exact h.contained.execTextWriteGrant
  | painterTake => exact h.execPainterTake_contained
  | paintWriteGrant => exact h.contained.execPaintWriteGrant
  | clearWriteGrant => exact h.contained.execClearWriteGrant
  | frameStart => exact h.contained.execFrameStart
  | rowRead => exact h.contained.execRowRead
  | sweep => exact h.contained.execSweep
  | _ => exact h.contained.link rfl

end
end Sys2Proof.Machine
end

section
/-!
PROOFS, every table within its entries (O53, R111, R124, R127, R172, R181). A table changes only at the events named for it, so each
promise is proved at those alone; what the records, the chains and the claims have of it follows from what they keep already.
-/

namespace Sys2Proof.Machine

/-- A promise that LKI, MDC, STU and the RESET pin have no part in is kept by a command whose body keeps it. -/
theorem Command.exec_leads {P : State → Prop} {s : State} {c : Command} (hs : P s)
    (hlink : ∀ t u, P t → t.LinkOnly u → P u)
    (hbody : ∀ (m : Message) (t : State), c.lengthOk m.params = true → P t → (c.body m t).Leads P) :
    Step.Leads P (exec c.instr s) := by
  rw [exec_instr]
  have taken (reply : Bool) : P (s.taken reply) := hlink s _ hs rfl
  exact runCommand_keeps hs taken (fun u code r data hu => hlink u _ hu (u.endExecution_linkOnly code r data))
    fun m reply _ hlength => hbody m _ hlength (taken reply)

theorem State.RecordsOnly.panels {s t : State} (only : s.RecordsOnly t) : t.panels = s.panels := by
  rw [State.RecordsOnly] at only
  rw [only]

theorem State.RecordsOnly.cst {s t : State} (only : s.RecordsOnly t) : t.cst = s.cst := by
  rw [State.RecordsOnly] at only
  rw [only]

/-! ## Cells (R172) -/

/-- Nothing is in the cells beyond the store, and every cell has an index 0..63. -/
structure State.CellsInRange (s : State) : Prop where
  cells : ∀ c, 26400 ≤ c → s.cell c = Cell.blank
  attrs : ∀ c, (s.cell c).attr ≤ 63

section
variable {s t : State}

theorem State.CellsInRange.of_cst (h : s.CellsInRange) (cst : t.cst = s.cst) : t.CellsInRange := by
  have cell (c : Nat) : t.cell c = s.cell c := by simp only [State.cell, cst]
  exact ⟨fun c hc => (cell c).trans (h.cells c hc), fun c => cell c ▸ h.attrs c⟩

theorem State.CellsInRange.of_keeps {P : Aspect → Prop} (h : s.CellsInRange) (kept : s.Keeps P t) (hP : ¬ P .cells) :
    t.CellsInRange := h.of_cst (kept .cells hP)

theorem State.CellsInRange.linkOnly (h : s.CellsInRange) (link : s.LinkOnly t) : t.CellsInRange := by
  rw [State.LinkOnly] at link
  exact h.of_cst (by rw [link])

theorem State.CellsInRange.writeCell (h : s.CellsInRange) {w : CellWrite} (hw : w.InRange) : (s.writeCell w).CellsInRange where
  cells c hc := by
    have hne : c ≠ w.cell := fun heq => Nat.not_le.2 hw.1 (heq ▸ hc)
    rw [State.cell_writeCell, if_neg hne]
    exact h.cells c hc
  attrs c := by
    rw [State.cell_writeCell]
    split
    · exact hw.2
    · exact h.attrs c

/-- A granted write is carried out or dropped. -/
theorem State.CellsInRange.granted (h : s.CellsInRange) {w : CellWrite} (hw : w.InRange) (k : Nat) (q : Requester) :
    ((s.paintWrite k w).setMark q).CellsInRange ∧ ((s.clearWrite k w).setMark q).CellsInRange
      ∧ ((s.textWrite w).setMark q).CellsInRange := by
  have written := h.writeCell hw
  refine ⟨?_, ?_, ?_⟩
  · unfold State.paintWrite
    split
    · exact { written with }
    · exact { h with }
  · unfold State.clearWrite
    split
    · exact { written with }
    · exact { h with }
  · unfold State.textWrite
    split
    · exact { written with }
    · exact { h with }

/-- The treatment of the records still to be moved writes no cell and sets no panel. -/
theorem moveNext_leaves (m : Message) (p cleared : Nat) (records : List Nat) (s : State) :
    (moveNext m p cleared records s).cst = s.cst ∧ (moveNext m p cleared records s).panels = s.panels := by
  induction records generalizing s with
  | nil => exact ⟨rfl, rfl⟩
  | cons k rest ih =>
    unfold moveNext
    split
    · have only := s.reclaim_recordsOnly k
      exact ⟨(ih _).1.trans only.cst, (ih _).2.trans only.panels⟩
    · exact ⟨rfl, rfl⟩

/-- The four grants alone write cells, each the write that is pending. -/
theorem State.CellsInRange.exec (h : s.CellsInRange) (contained : s.Contained) {i : Instr} (hi : i ≠ .powerOnReset) :
    Step.Leads State.CellsInRange (Machine.exec i s) := by
  have kept (hnames : ¬ Aspect.cells.Names i) : Step.Leads State.CellsInRange (Machine.exec i s) :=
    (exec_keepsBut s hi).mono fun _ kept => h.of_keeps kept hnames
  cases i with
  | paintWriteGrant =>
    simp only [Machine.exec, Machine.execPaintWriteGrant]
    split
    · next k sn bank string w ws hpainter =>
      have hw : w.InRange := contained.painter w (hpainter ▸ List.mem_cons_self ..)
      have written := (h.granted hw k .ptr).1
      split
      · split
        · refine State.CellsInRange.linkOnly ?_ (State.jobEnded_linkOnly _ k)
          exact { written with }
        · exact { written with }
      · exact h
    · exact h
  | clearWriteGrant =>
    simp only [Machine.exec, Machine.execClearWriteGrant]
    split
    · next k w ws hpainter =>
      have hw : w.InRange := contained.painter w (hpainter ▸ List.mem_cons_self ..)
      have written := (h.granted hw k .ptr).2.1
      split
      · split
        · refine State.CellsInRange.linkOnly ?_ (State.jobEnded_linkOnly _ k)
          exact { written with }
        · exact { written with }
      · exact h
    · exact h
  | textWriteGrant =>
    simp only [Machine.exec, Machine.execTextWriteGrant]
    split
    · next m w ws hmdc =>
      have hw : w.InRange := contained.mdc.1 w (hmdc ▸ List.mem_cons_self ..)
      have written := (h.granted hw 0 .mdc).2.2
      split
      · split
        · exact written.linkOnly (State.endExecution_linkOnly ..)
        · exact { written with }
      · exact h
    · exact h
  | vacateWriteGrant =>
    simp only [Machine.exec, Machine.execVacateWriteGrant]
    split
    · next m p cleared k w ws rest hmdc =>
      have hw : w.InRange := contained.mdc.1 w (hmdc ▸ List.mem_cons_self ..)
      have written := (h.granted hw k .mdc).2.1
      split
      · split
        · exact (written.of_cst (State.reclaim_recordsOnly _ k).cst).of_cst (moveNext_leaves m p cleared rest _).1
        · exact { written with }
      · exact h
    · exact h
  | _ => exact kept (by simp [Aspect.Names])

/-! ## Panels (R111) -/

/-- 32 panels, each inside its page. -/
structure State.PanelsInRange (s : State) : Prop where
  panels : ∀ p, 32 ≤ p → s.panel p = none
  rectangles : ∀ p e, s.panel p = some e → e.Inside

theorem State.PanelsInRange.of_panels (h : s.PanelsInRange) (panels : t.panels = s.panels) : t.PanelsInRange where
  panels p hp := (State.panel_of_panels panels p).trans (h.panels p hp)
  rectangles p e he := h.rectangles p e (State.panel_of_panels panels p ▸ he)

theorem State.PanelsInRange.setPanel (h : s.PanelsInRange) {p : Nat} {entry : Option Panel}
    (hentry : ∀ e, entry = some e → p < 32 ∧ e.Inside) : (s.setPanel p entry).PanelsInRange where
  panels q hq := by
    rw [State.panel_setPanel]
    split
    · next heq =>
      refine Option.eq_none_iff_forall_ne_some.2 fun e he => ?_
      have := (hentry e he).1
      omega
    · exact h.panels q hq
  rectangles q e he := by
    rw [State.panel_setPanel] at he
    split at he
    · exact (hentry e he).2
    · exact h.rectangles q e he

theorem State.PanelsInRange.lt_of_some (h : s.PanelsInRange) {p : Nat} {e : Panel} (hp : s.panel p = some e) : p < 32 := by
  refine Nat.lt_of_not_le fun hle => ?_
  rw [h.panels p hle] at hp
  cases hp

/-- The five commands of the Panel Table alone set panels. -/
theorem State.PanelsInRange.body (h : s.PanelsInRange) (m : Message) {c : Command}
    (hc : Aspect.panels.Names c.instr) : (c.body m s).Leads State.PanelsInRange := by
  have reset {p : Nat} {e : Panel} (hp : s.panel p = some e) (frozen : Bool) :
      (s.setPanel p (some { e with frozen := frozen })).PanelsInRange := h.setPanel fun x hx => by
    have inside := h.rectangles p e hp
    cases hx
    exact ⟨h.lt_of_some hp, { inside with }⟩
  cases c with
  | panelOpen =>
    refine .check fun hp => .check fun hpage => .check fun hheight => .check fun hwidth => ?_
    split
    · trivial
    · refine .check fun hinside => .check fun _ => h.setPanel fun e he => ?_
      cases he
      exact ⟨by omega, by simp only; omega, by simp only; omega, by simp only; omega⟩
  | panelClose =>
    refine .check fun _ => .check fun _ => ?_
    have retired : ((s.panelRecords (u8 m.params 0)).foldl State.retire s).PanelsInRange :=
      h.of_panels (State.RecordsOnly.foldl State.retire_recordsOnly _ s).panels
    exact retired.setPanel nofun
  | panelFreeze =>
    refine .check fun _ => ?_
    split
    · trivial
    · next e hpanel =>
      unfold Machine.panelFreeze
      split
      · exact h
      · exact (reset hpanel true).of_panels (State.RecordsOnly.foldl State.defer_recordsOnly _ _).panels
  | panelThaw =>
    refine .check fun _ => ?_
    split
    · trivial
    · next e hpanel =>
      unfold Machine.panelThaw
      split
      · exact (reset hpanel false).of_panels (State.RecordsOnly.foldl State.resume_recordsOnly _ _).panels
      · exact h
  | panelMove =>
    rcases panelMoveBody_cases m s with ⟨r, hbody⟩ | ⟨p, e, page, row, col, hpanel, _, hpage, hrow, hcol, _, hbody⟩
    · rw [show Command.panelMove.body m s = _ from hbody]
      trivial
    · rw [show Command.panelMove.body m s = _ from hbody]
      have inside := h.rectangles p e hpanel
      refine State.PanelsInRange.of_panels (h.setPanel (entry := some { e with page := page, row := row, col := col })
        fun x hx => ?_) (moveNext_leaves m p _ _ _).2
      cases hx
      exact ⟨h.lt_of_some hpanel, hpage, ⟨inside.height.1, hrow⟩, inside.width.1, hcol⟩
  | _ => exact absurd hc (by simp [Aspect.Names, Command.instr])

theorem State.PanelsInRange.linkOnly (h : s.PanelsInRange) (link : s.LinkOnly t) : t.PanelsInRange := by
  rw [State.LinkOnly] at link
  exact h.of_panels (by rw [link])

theorem State.PanelsInRange.exec (h : s.PanelsInRange) {i : Instr} (hi : i ≠ .powerOnReset) :
    Step.Leads State.PanelsInRange (Machine.exec i s) := by
  have command (c : Command) (hc : Aspect.panels.Names c.instr) : Step.Leads State.PanelsInRange (Machine.exec c.instr s) :=
    Command.exec_leads h (fun _ _ => linkOnly) fun m _ _ ht => ht.body m hc
  by_cases hnames : Aspect.panels.Names i
  · rcases hnames with rfl | rfl | rfl | rfl | rfl
    · exact command .panelOpen (.inl rfl)
    · exact command .panelClose (.inr (.inl rfl))
    · exact command .panelFreeze (.inr (.inr (.inl rfl)))
    · exact command .panelThaw (.inr (.inr (.inr (.inl rfl))))
    · exact command .panelMove (.inr (.inr (.inr (.inr rfl))))
  · exact (exec_keepsBut s hi).mono fun _ kept => h.of_panels (kept .panels hnames)

/-! ## Attributes, banks and user glyphs (R124, R127, R181) -/

structure State.AttrsInRange (s : State) : Prop where
  attrs : ∀ i, 64 ≤ i → s.attr i = Attr.initial

structure State.BanksInRange (s : State) : Prop where
  banks : ∀ bank c, s.scheme bank c ≤ 63 ∧ (16 ≤ c → s.scheme bank c = 0)

structure State.GlyphsInRange (s : State) : Prop where
  glyphs : ∀ c, (s.glyph c).length = 14 ∧ (c < 128 ∨ 191 < c → s.glyph c = blankGlyph)

theorem State.AttrsInRange.of_attrs (h : s.AttrsInRange) (attrs : t.atu.attrs = s.atu.attrs) : t.AttrsInRange where
  attrs i hi := by
    rw [State.attr, attrs]
    exact h.attrs i hi

theorem State.BanksInRange.of_banks (h : s.BanksInRange) (banks : t.atu.bankA = s.atu.bankA ∧ t.atu.bankB = s.atu.bankB) :
    t.BanksInRange where
  banks bank c := by
    have scheme : t.scheme bank c = s.scheme bank c := by
      cases bank <;> simp only [State.scheme, banks]
    rw [scheme]
    exact h.banks bank c

theorem State.GlyphsInRange.of_glyphs (h : s.GlyphsInRange) (glyphs : t.dou.glyphs = s.dou.glyphs) : t.GlyphsInRange where
  glyphs c := by
    rw [State.glyph, glyphs]
    exact h.glyphs c

theorem State.AttrsInRange.attrSet (h : s.AttrsInRange) (m : Message) : (attrSetBody m s).Leads State.AttrsInRange := by
  refine .check fun hindex => .check fun _ => .check fun _ => .check fun _ => ⟨fun i hi => ?_⟩
  have hne : i ≠ u8 m.params 0 := by omega
  exact (Table.get_set_other _ _ _ hne).trans (h.attrs i hi)

theorem State.BanksInRange.setScheme (h : s.BanksInRange) (bank : Bank) {condition index : Nat} (hcondition : condition ≤ 15)
    (hindex : index ≤ 63) : (s.setScheme bank condition index).BanksInRange where
  banks other c := by
    rw [State.scheme_setScheme]
    split
    · next heq => exact ⟨hindex, fun hc => by omega⟩
    · exact h.banks other c

theorem State.BanksInRange.records (h : s.BanksInRange) (only : s.RecordsOnly t) : t.BanksInRange := by
  rw [State.RecordsOnly] at only
  exact h.of_banks (by rw [only]; exact ⟨rfl, rfl⟩)

theorem State.BanksInRange.schemeSet (h : s.BanksInRange) (m : Message) : (schemeSetBody m s).Leads State.BanksInRange := by
  unfold schemeSetBody
  dsimp only
  split
  · trivial
  · refine .check fun hcondition => .check fun hindex => State.BanksInRange.records ?_ (State.joinGroup_recordsOnly _ _)
    exact h.setScheme _ (Nat.not_lt.1 hcondition) (Nat.not_lt.1 hindex)

theorem State.BanksInRange.schemeSwap (h : s.BanksInRange) (m : Message) : (schemeSwapBody m s).Leads State.BanksInRange := by
  refine State.BanksInRange.records (s := s.swapBanks) ⟨fun bank c => ?_⟩ (State.joinGroup_recordsOnly _ _)
  cases bank with
  | a => exact h.banks .b c
  | b => exact h.banks .a c

theorem State.GlyphsInRange.glyphLoad (h : s.GlyphsInRange) {m : Message} (hlength : m.params.length = 15) :
    (glyphLoadBody m s).Leads State.GlyphsInRange := by
  refine .check fun hcode => ⟨fun c => ?_⟩
  have glyph := Table.get_set blankGlyph s.dou.glyphs (u8 m.params 0) (m.params.drop 1) c
  by_cases hc : c = u8 m.params 0
  · rw [if_pos hc] at glyph
    refine ⟨(congrArg List.length glyph).trans ?_, fun hout => by omega⟩
    rw [List.length_drop, hlength]
  · rw [if_neg hc] at glyph
    obtain ⟨hlen, hblank⟩ := h.glyphs c
    exact ⟨(congrArg List.length glyph).trans hlen, fun hout => glyph.trans (hblank hout)⟩

theorem State.AttrsInRange.exec (h : s.AttrsInRange) {i : Instr} (hi : i ≠ .powerOnReset) :
    Step.Leads State.AttrsInRange (Machine.exec i s) := by
  by_cases hnames : Aspect.attrs.Names i
  · subst hnames
    refine Command.exec_leads (c := .attrSet) h (fun t u ht link => ?_) fun m _ _ ht => ht.attrSet m
    rw [State.LinkOnly] at link
    exact ht.of_attrs (by rw [link])
  · exact (exec_keepsBut s hi).mono fun _ kept => h.of_attrs (kept .attrs hnames)

theorem State.BanksInRange.exec (h : s.BanksInRange) {i : Instr} (hi : i ≠ .powerOnReset) :
    Step.Leads State.BanksInRange (Machine.exec i s) := by
  have link (t u : State) (ht : t.BanksInRange) (link : t.LinkOnly u) : u.BanksInRange := by
    rw [State.LinkOnly] at link
    exact ht.of_banks (by rw [link]; exact ⟨rfl, rfl⟩)
  by_cases hnames : Aspect.banks.Names i
  · rcases hnames with rfl | rfl
    · exact Command.exec_leads (c := .schemeSet) h link fun m _ _ ht => ht.schemeSet m
    · exact Command.exec_leads (c := .schemeSwap) h link fun m _ _ ht => ht.schemeSwap m
  · exact (exec_keepsBut s hi).mono fun _ kept => h.of_banks (kept .banks hnames)

theorem State.GlyphsInRange.exec (h : s.GlyphsInRange) {i : Instr} (hi : i ≠ .powerOnReset) :
    Step.Leads State.GlyphsInRange (Machine.exec i s) := by
  by_cases hnames : Aspect.glyphs.Names i
  · subst hnames
    refine Command.exec_leads (c := .glyphLoad) h (fun t u ht link => ?_) fun m _ hlength ht => ht.glyphLoad ?_
    · rw [State.LinkOnly] at link
      exact ht.of_glyphs (by rw [link])
    · exact of_decide_eq_true hlength
  · exact (exec_keepsBut s hi).mono fun _ kept => h.of_glyphs (kept .glyphs hnames)

/-! ## Slots (R22) -/

/-- A slot beyond the 1024 is bound by nothing, and a FREE slot holds the empty record. -/
theorem State.Sound.exec_slots (h : s.Sound) {i : Instr} (hi : i ≠ .powerOnReset) :
    Step.Leads (fun t => ∀ k, 1024 ≤ k → t.slot k = Record.empty) (exec i s) := by
  by_cases hbind : i = .bind
  · subst hbind
    refine Command.exec_leads (c := .bind) h.inRange.slots (fun t u ht link k hk => ?_) fun m t _ ht => ?_
    · rw [State.LinkOnly] at link
      exact (State.slot_of_slots (by rw [link]) k).trans (ht k hk)
    · simp only [Command.body, bindBody]
      rcases bindCheck_cases m.params t with ⟨r, _, hcheck⟩ | ⟨_, b, hcheck, accepted⟩
      · rw [hcheck]
        trivial
      · rw [hcheck]
        intro k hk
        have hlt := (State.lowestFree_some accepted.slot).1
        exact (bindApply_slot b t k).trans ((if_neg (by omega)).trans (ht k hk))
  · refine (h.exec_movesSlots hi).mono fun t moved k hk => (moved.sound.records k).free ?_
    have hfree : (s.slot k).state = .free := by
      rw [h.inRange.slots k hk]
      rfl
    rcases moved.state k with hsame | hmove
    · rw [hsame, hfree]
    · rw [hfree] at hmove
      rcases Instr.slotMove_cases hmove with ⟨hi, _⟩ | ⟨_, hlive, _⟩ | ⟨_, hretiring, _⟩
      · exact absurd hi hbind
      · cases hlive
      · cases hretiring

/-! ## Every table -/

theorem State.reset_inRange : State.reset.InRange where
  slots _ _ := rfl
  chains _ _ := rfl
  claims _ _ := rfl
  cells _ _ := rfl
  cellAttrs _ := Nat.zero_le 63
  panels _ _ := rfl
  rectangles := nofun
  attrs _ _ := rfl
  banks bank _ := by cases bank <;> exact ⟨Nat.zero_le 63, fun _ => rfl⟩
  glyphs _ := ⟨rfl, fun _ => rfl⟩
  ungranted := nofun
  clearedIndex := nofun

/-- A bucket is a number of one byte (R34). -/
theorem bucketOf_lt (instrument : Nat) (kind : Kind) : bucketOf instrument kind < 256 := Nat.mod_lt _ (by decide)

theorem State.ChainsSound.chains_inRange (h : s.ChainsSound) {b : Nat} (hb : 256 ≤ b) : s.chain b = [] := by
  refine List.eq_nil_iff_forall_not_mem.2 fun k hk => ?_
  have := bucketOf_lt (s.slot k).instrument (s.slot k).kind
  have := ((h.members b k).1 hk).2
  omega

theorem State.Sound.exec_inRange (h : s.Sound) {i : Instr} (hexec : exec i s = .next t) : t.InRange := by
  by_cases hi : i = .powerOnReset
  · subst hi
    cases hexec
    exact { State.reset_inRange with }
  · have cells := (State.CellsInRange.exec ⟨h.inRange.cells, h.inRange.cellAttrs⟩ h.contained hi).next hexec
    have panels := (State.PanelsInRange.exec ⟨h.inRange.panels, h.inRange.rectangles⟩ hi).next hexec
    have contained := (h.exec_contained i).next hexec
    obtain ⟨ungranted, clearedIndex⟩ := t.jobs_inRange contained.painter contained.mdc
    exact {
      slots := (h.exec_slots hi).next hexec
      chains := fun _ => ((h.exec_fieldsSound i).next hexec).chains.chains_inRange
      claims := fun _ => ((h.exec_claimsSound i).next hexec).claims_inRange
      cells := cells.cells
      cellAttrs := cells.attrs
      panels := panels.panels
      rectangles := panels.rectangles
      attrs := ((State.AttrsInRange.exec ⟨h.inRange.attrs⟩ hi).next hexec).attrs
      banks := ((State.BanksInRange.exec ⟨h.inRange.banks⟩ hi).next hexec).banks
      glyphs := ((State.GlyphsInRange.exec ⟨h.inRange.glyphs⟩ hi).next hexec).glyphs
      ungranted := ungranted
      clearedIndex := clearedIndex }

end

/-- Settles O53: a step carries out one command or event, and each keeps the counts and every table in range. -/
theorem rangesAreKept : Obligations.RangesAreKept := by
  intro s t h hstep
  unfold step at hstep
  split at hstep
  · exact Host.Outcome.next.inj hstep ▸ ⟨h.bounded, h.inRange⟩
  · have sound := h.of_pending
    exact ⟨((sound _).exec_contained _).next hstep |>.bounded, (sound _).exec_inRange hstep⟩

end Sys2Proof.Machine
end

section
/-!
PROOFS, groups of due records (R140, R141) and runs over the records of a key: what a command that evaluates several records one after
the other leaves of each, of the alert list and of the field queue.
-/

namespace Sys2Proof.Machine

/-! ## A group becomes due -/

/-- What becoming due reads of a record (R140). -/
def Record.standing (r : Record) : Bool × SlotState × Nat := (r.queued, r.state, r.panel)

theorem Record.standing_eq_iff {r x : Record} :
    r.standing = x.standing ↔ r.queued = x.queued ∧ r.state = x.state ∧ r.panel = x.panel := by simp [Record.standing]

/-- `t` and `s` agree in all that becoming due reads. -/
structure State.SameStanding (s t : State) : Prop where
  slot : ∀ k, (t.slot k).standing = (s.slot k).standing
  panels : t.panels = s.panels

section
variable {s t : State}

theorem State.joins_congr {k : Nat} (slot : (t.slot k).standing = (s.slot k).standing) (panels : t.panels = s.panels) :
    t.joins k = s.joins k ∧ t.waits k = s.waits k := by
  obtain ⟨hqueued, hstate, hpanel⟩ := Record.standing_eq_iff.1 slot
  simp only [State.joins, State.waits, State.isLive, State.isFrozen, State.panel, hqueued, hstate, hpanel, panels, and_self]

theorem State.madeDue_congr {k : Nat} (slot : (t.slot k).standing = (s.slot k).standing) (panels : t.panels = s.panels)
    (x : Record) : t.madeDue k x = s.madeDue k x := by
  obtain ⟨hjoins, hwaits⟩ := State.joins_congr slot panels
  rw [State.madeDue, hjoins, hwaits, State.madeDue]

/-- Becoming due, for one of the 1024 slots. -/
theorem State.becomeDue_slot (s : State) {k : Nat} (hk : k < 1024) (j : Nat) :
    (s.becomeDue k).slot j = if j = k then s.madeDue k (s.slot k) else s.slot j := by
  rw [(s.becomeDue_spec k).1]
  simp only [State.madeDue, State.joins, State.waits, hk, decide_true, Bool.true_and]
  cases (s.slot k).queued <;> simp

theorem State.becomeDue_frame (s : State) {k : Nat} (hk : k < 1024) : s.becomeDue k = { s with
    ftb := { s.ftb with slots := (s.becomeDue k).ftb.slots }
    ptr := { s.ptr with queue := s.ptr.queue ++ [k].filter s.joins } } := by
  have hqueue : (if (s.slot k).queued || (s.isLive k && s.isFrozen (s.slot k).panel) then s.ptr.queue else s.ptr.queue ++ [k])
      = s.ptr.queue ++ [k].filter s.joins := by
    simp only [List.filter_singleton, State.joins, hk, decide_true, Bool.true_and]
    cases (s.slot k).queued <;> cases s.isLive k && s.isFrozen (s.slot k).panel <;> simp
  exact (s.becomeDue_spec k).2.trans (by rw [hqueue])

/-- Distinct slots become due one after the other, each as if it were alone. -/
theorem State.foldl_becomeDue {l : List Nat} (hl : l.Nodup) (hlt : ∀ k ∈ l, k < 1024) (s : State) :
    (∀ j, (l.foldl State.becomeDue s).slot j = if j ∈ l then s.madeDue j (s.slot j) else s.slot j)
    ∧ l.foldl State.becomeDue s = { s with
        ftb := { s.ftb with slots := (l.foldl State.becomeDue s).ftb.slots }
        ptr := { s.ptr with queue := s.ptr.queue ++ l.filter s.joins } } := by
  induction l generalizing s with
  | nil => exact ⟨fun _ => rfl, by simp⟩
  | cons k rest ih =>
    obtain ⟨hk, hrest⟩ := List.nodup_cons.1 hl
    have hlt_k := hlt k (List.mem_cons_self ..)
    obtain ⟨hslot, hframe⟩ := ih hrest (fun j hj => hlt j (List.mem_cons_of_mem _ hj)) (s.becomeDue k)
    have first := s.becomeDue_frame hlt_k
    have panels : (s.becomeDue k).panels = s.panels := by rw [first]
    have others {j : Nat} (hj : j ∈ rest) : (s.becomeDue k).slot j = s.slot j := by
      rw [State.becomeDue_slot s hlt_k, if_neg (fun heq : j = k => hk (heq ▸ hj))]
    refine ⟨fun j => ?_, ?_⟩
    · rw [List.foldl_cons, hslot]
      by_cases hj : j ∈ rest
      · rw [if_pos hj, if_pos (List.mem_cons_of_mem _ hj), others hj]
        exact State.madeDue_congr (congrArg _ (others hj)) panels _
      · rw [if_neg hj, State.becomeDue_slot s hlt_k]
        by_cases hjk : j = k
        · simp [hjk]
        · simp [hjk, hj]
    · have joins : rest.filter (s.becomeDue k).joins = rest.filter s.joins :=
        List.filter_congr fun j hj => (State.joins_congr (congrArg _ (others hj)) panels).1
      have hqueue : (s.becomeDue k).ptr.queue ++ rest.filter s.joins = s.ptr.queue ++ (k :: rest).filter s.joins := by
        rw [first]
        simp only [List.append_assoc, ← List.filter_append, List.singleton_append]
      rw [joins, hqueue] at hframe
      rw [List.foldl_cons]
      generalize rest.foldl State.becomeDue (s.becomeDue k) = t at hframe ⊢
      rw [hframe, first]

theorem mem_ascending {due : List Nat} {k : Nat} : k ∈ ascending due ↔ k ∈ due ∧ k < 1024 := by
  simp [ascending, allSlots, and_comm]

theorem State.joinGroup_eq_foldl (s : State) (due : List Nat) :
    s.joinGroup due = (ascending due).foldl State.becomeDue s := rfl

theorem State.madeDue_of_ge {k : Nat} (hk : 1024 ≤ k) (x : Record) : s.madeDue k x = x := by
  simp [State.madeDue, State.joins, State.waits, Nat.not_lt.2 hk]

/-- What a group that becomes due leaves of every record (R141). -/
theorem State.joinGroup_slot (s : State) (due : List Nat) (k : Nat) :
    (s.joinGroup due).slot k = if k ∈ due then s.madeDue k (s.slot k) else s.slot k := by
  have joined := (s.foldl_becomeDue (l := ascending due) (List.nodup_range.filter _) (fun j hj => (mem_ascending.1 hj).2)).1 k
  simp only [mem_ascending] at joined
  rw [State.joinGroup_eq_foldl, joined]
  by_cases hk : k < 1024
  · simp [hk]
  · simp [hk, State.madeDue_of_ge (Nat.le_of_not_lt hk)]

theorem State.joinGroup_frame (s : State) (due : List Nat) : s.joinGroup due = { s with
    ftb := { s.ftb with slots := (s.joinGroup due).ftb.slots }
    ptr := { s.ptr with queue := s.queueWith due } } := by
  have joined := (s.foldl_becomeDue (l := ascending due) (List.nodup_range.filter _) (fun j hj => (mem_ascending.1 hj).2)).2
  rwa [← State.joinGroup_eq_foldl, ← State.queueWith] at joined

theorem State.joinGroup_nil (s : State) : s.joinGroup [] = s := by
  simp [State.joinGroup]

theorem State.SameStanding.queueWith (h : s.SameStanding t) (hptr : t.ptr = s.ptr) (due : List Nat) :
    t.queueWith due = s.queueWith due := by
  have joins : t.joins = s.joins := funext fun k => (State.joins_congr (h.slot k) h.panels).1
  rw [State.queueWith, joins, hptr, State.queueWith]

/-- A group that becomes due after an update that leaves the standing of every record becomes due as it would have before. -/
theorem State.SameStanding.joined (h : s.SameStanding t) (hptr : t.ptr = s.ptr) (due : List Nat) :
    (∀ k, (t.joinGroup due).slot k = if k ∈ due then s.madeDue k (t.slot k) else t.slot k)
    ∧ t.joinGroup due = { t with
        ftb := { t.ftb with slots := (t.joinGroup due).ftb.slots }
        ptr := { s.ptr with queue := s.queueWith due } } := by
  refine ⟨fun k => ?_, ?_⟩
  · rw [State.joinGroup_slot, State.madeDue_congr (h.slot k) h.panels]
  · have joined := t.joinGroup_frame due
    rwa [h.queueWith hptr, hptr] at joined

end

/-! ## Crossings in the order of evaluation (R87, R90) -/

theorem crossings_append (es fs : List AlertEntry) (alerts : List AlertEntry) (sticky : Byte) :
    crossings (es ++ fs) alerts sticky = crossings fs (crossings es alerts sticky).1 (crossings es alerts sticky).2 := by
  induction es generalizing alerts sticky with
  | nil => rfl
  | cons e es ih => exact ih _ _

/-- The crossings among the slots of `l` whose value is set, `x` giving the records before their evaluation. -/
def crossingsOf (x : Nat → Record) (sets : Nat → Bool) (l : List Nat) : List AlertEntry :=
  ((l.filter sets).filter (fun k => (x k).crosses)).map (fun k => crossingEntry k (x k))

theorem crossingsOf_append (x : Nat → Record) (sets : Nat → Bool) (l m : List Nat) :
    crossingsOf x sets (l ++ m) = crossingsOf x sets l ++ crossingsOf x sets m := by
  simp [crossingsOf]

theorem crossingsOf_singleton (x : Nat → Record) (sets : Nat → Bool) (k : Nat) :
    crossingsOf x sets [k] = if sets k && (x k).crosses then [crossingEntry k (x k)] else [] := by
  cases hsets : sets k <;> cases hcrosses : (x k).crosses <;> simp [crossingsOf, hsets, hcrosses]

/-! ## Runs -/

/-- `b` is `a` after a run over the slots of `l`: each holds its record of `x`, evaluated where its value is set; the crossings are
entered in the order of `l`; the slots due and the values set are added to those of `a`.  Nothing else has changed. -/
structure TickAcc.Runs (a : TickAcc) (l : List Nat) (x : Nat → Record) (sets due : Nat → Bool) (b : TickAcc) : Prop where
  slot : ∀ j, b.state.slot j = if j ∈ l then (if sets j then (x j).evaluated a.state.agu.alertFrames else x j)
    else a.state.slot j
  frame : b.state = { a.state with
    ftb := { a.state.ftb with slots := b.state.ftb.slots }
    alerts := (crossings (crossingsOf x sets l) a.state.alerts a.state.stu.sticky).1
    stu := { a.state.stu with sticky := (crossings (crossingsOf x sets l) a.state.alerts a.state.stu.sticky).2 } }
  due : b.due = a.due ++ l.filter due
  updated : b.updated = a.updated + (l.filter sets).length

namespace TickAcc.Runs

variable {a b c : TickAcc} {l m : List Nat} {x : Nat → Record} {sets due : Nat → Bool}

theorem agu (h : a.Runs l x sets due b) : b.state.agu = a.state.agu := by rw [h.frame]

theorem nil (a : TickAcc) (x : Nat → Record) (sets due : Nat → Bool) : a.Runs [] x sets due a :=
  ⟨fun _ => rfl, rfl, by simp, rfl⟩

/-- One run after another, with the same records, whatever slots they have in common. -/
theorem append (h : a.Runs l x sets due b) (h' : b.Runs m x sets due c) : a.Runs (l ++ m) x sets due c where
  slot j := by
    rw [h'.slot, h.slot, h.agu]
    by_cases hl : j ∈ l <;> by_cases hm : j ∈ m <;> simp [hl, hm]
  frame := by
    have first := h.frame
    have second := h'.frame
    have alerts : b.state.alerts = (crossings (crossingsOf x sets l) a.state.alerts a.state.stu.sticky).1 := by rw [first]
    have sticky : b.state.stu.sticky = (crossings (crossingsOf x sets l) a.state.alerts a.state.stu.sticky).2 := by rw [first]
    rw [alerts, sticky, ← crossings_append, ← crossingsOf_append] at second
    generalize c.state = u at second ⊢
    rw [second, first]
  due := by rw [h'.due, h.due, List.filter_append, List.append_assoc]
  updated := by rw [h'.updated, h.updated, List.filter_append, List.length_append, Nat.add_assoc]

/-- A fold over distinct slots, each step of which is a run over its own slot from the record that the fold found there. -/
theorem foldl {f : TickAcc → Nat → TickAcc} (hl : l.Nodup) (base : Nat → Record) (frames : Agu)
    (step : ∀ (b : TickAcc) k, k ∈ l → b.state.agu = frames → b.state.slot k = base k → b.Runs [k] x sets due (f b k))
    (hagu : a.state.agu = frames) (hbase : ∀ k ∈ l, a.state.slot k = base k) : a.Runs l x sets due (l.foldl f a) := by
  induction l generalizing a with
  | nil => exact .nil a x sets due
  | cons k rest ih =>
    obtain ⟨hk, hrest⟩ := List.nodup_cons.1 hl
    have first := step a k (List.mem_cons_self ..) hagu (hbase k (List.mem_cons_self ..))
    refine first.append (ih hrest (fun b j hj => step b j (List.mem_cons_of_mem _ hj)) (first.agu.trans hagu) fun j hj => ?_)
    have hne : j ∉ [k] := fun hmem => hk (List.mem_singleton.1 hmem ▸ hj)
    rw [first.slot, if_neg hne]
    exact hbase j (List.mem_cons_of_mem _ hj)

/-- The records of the run and the slots it is told of, told otherwise. -/
theorem congr {y : Nat → Record} {sets' due' : Nat → Bool} (h : a.Runs l x sets due b) (hx : ∀ k ∈ l, x k = y k)
    (hsets : ∀ k ∈ l, sets k = sets' k) (hdue : ∀ k ∈ l, due k = due' k) : a.Runs l y sets' due' b := by
  have filter_sets : l.filter sets = l.filter sets' := List.filter_congr hsets
  have entries : crossingsOf x sets l = crossingsOf y sets' l := by
    rw [crossingsOf, crossingsOf, ← filter_sets]
    have mem {k : Nat} (hk : k ∈ l.filter sets) : x k = y k := hx k (List.mem_of_mem_filter hk)
    rw [List.filter_congr (q := fun k => (y k).crosses) fun k hk => by rw [mem hk]]
    exact List.map_congr_left fun k hk => by rw [mem (List.mem_of_mem_filter hk)]
  refine ⟨fun j => ?_, entries ▸ h.frame, List.filter_congr hdue ▸ h.due, filter_sets ▸ h.updated⟩
  rw [h.slot]
  by_cases hj : j ∈ l
  · rw [if_pos hj, if_pos hj, hx j hj, hsets j hj]
  · rw [if_neg hj, if_neg hj]

/-- A run from a state whose records in `l` have been changed is a run from the state before. -/
theorem of_changed {s : State} (frame : a.state = { s with ftb := { s.ftb with slots := a.state.ftb.slots } })
    (others : ∀ j, j ∉ l → a.state.slot j = s.slot j) (h : a.Runs l x sets due b) :
    ({ a with state := s } : TickAcc).Runs l x sets due b where
  slot j := by
    have agu : a.state.agu = s.agu := by rw [frame]
    rw [h.slot, agu]
    by_cases hj : j ∈ l
    · rw [if_pos hj, if_pos hj]
    · rw [if_neg hj, if_neg hj, others j hj]
  frame := by
    have run := h.frame
    have alerts : a.state.alerts = s.alerts := by rw [frame]
    have stu : a.state.stu = s.stu := by rw [frame]
    rw [alerts, stu] at run
    generalize b.state = u at run ⊢
    rw [run, frame]
  due := h.due
  updated := h.updated

/-- What a run from state `s` leaves when the records it makes due have joined the field queue (R141). -/
theorem joined {s : State} (h : (⟨s, [], 0⟩ : TickAcc).Runs l x sets due b)
    (standing : ∀ k ∈ l, (x k).standing = (s.slot k).standing) :
    (∀ k, (b.state.joinGroup b.due).slot k =
      if k ∈ l then
        (let y := if sets k then (x k).evaluated s.agu.alertFrames else x k
         if k ∈ l.filter due then s.madeDue k y else y)
      else s.slot k)
    ∧ b.state.joinGroup b.due = { s with
        ftb := { s.ftb with slots := (b.state.joinGroup b.due).ftb.slots }
        alerts := (crossings (crossingsOf x sets l) s.alerts s.stu.sticky).1
        stu := { s.stu with sticky := (crossings (crossingsOf x sets l) s.alerts s.stu.sticky).2 }
        ptr := { s.ptr with queue := s.queueWith (l.filter due) } } := by
  have hdue : b.due = l.filter due := h.due
  have frame := h.frame
  have same : s.SameStanding b.state := by
    refine ⟨fun k => ?_, by rw [frame]⟩
    rw [h.slot]
    split
    · next hk =>
      rw [← standing k hk]
      split <;> rfl
    · rfl
  obtain ⟨slots, rest⟩ := same.joined (by rw [frame]) b.due
  refine ⟨fun k => ?_, ?_⟩
  · rw [slots, hdue, h.slot]
    by_cases hk : k ∈ l
    · rw [if_pos hk, if_pos hk]
    · rw [if_neg hk, if_neg hk, if_neg (fun hmem => hk (List.mem_of_mem_filter hmem))]
  · rw [hdue] at rest ⊢
    generalize b.state.joinGroup (l.filter due) = t at rest ⊢
    rw [rest, frame]

/-- A run that sets every value, with its records due: what it leaves when they have joined the field queue. -/
theorem joined_all {s t : State} (h : (⟨s, [], 0⟩ : TickAcc).Runs l x (fun _ => true) (fun _ => true) b)
    (standing : ∀ k ∈ l, (x k).standing = (s.slot k).standing) (ht : b.state.joinGroup l = t) :
    let found := crossings ((l.filter (fun k => (x k).crosses)).map (fun k => crossingEntry k (x k))) s.alerts s.stu.sticky
    (∀ k, t.slot k = if k ∈ l then s.madeDue k ((x k).evaluated s.agu.alertFrames) else s.slot k)
    ∧ t = { s with
        ftb := { s.ftb with slots := t.ftb.slots }, alerts := found.1, stu := { s.stu with sticky := found.2 }
        ptr := { s.ptr with queue := s.queueWith l } } := by
  have filter_true : l.filter (fun _ => true) = l := List.filter_true l
  have hdue : b.due = l.filter fun _ => true := h.due
  have joined := h.joined standing
  rw [hdue, crossingsOf, filter_true, ht] at joined
  obtain ⟨slots, rest⟩ := joined
  refine ⟨fun k => (slots k).trans ?_, rest⟩
  by_cases hk : k ∈ l
  · rw [if_pos hk, if_pos hk, if_pos hk, if_pos rfl]
  · rw [if_neg hk, if_neg hk]

end TickAcc.Runs

/-! ## Steps of a run -/

/-- An update of one state told as a step of a run: the slot is due and its value counts as set. -/
def TickAcc.revalue (f : State → Nat → State) (a : TickAcc) (k : Nat) : TickAcc :=
  { state := f a.state k, due := a.due ++ [k], updated := a.updated + 1 }

theorem TickAcc.foldl_revalue (f : State → Nat → State) (l : List Nat) (a : TickAcc) :
    (l.foldl (TickAcc.revalue f) a).state = l.foldl f a.state := by
  induction l generalizing a with
  | nil => rfl
  | cons k rest ih => exact ih _

section
variable {x : Nat → Record} {sets due : Nat → Bool}

/-- A record changed and its band evaluated (R86, R87). -/
theorem TickAcc.revalue_runs (a : TickAcc) (k : Nat) {f : Record → Record} (hx : x k = f (a.state.slot k))
    (hsets : sets k = true) (hdue : due k = true) :
    a.Runs [k] x sets due (a.revalue (fun s k => (s.updSlot k f).evaluateBand k) k) where
  slot j := by
    have changed := (a.state.updSlot_evaluateBand_changes k f).slot j
    refine changed.trans ?_
    by_cases hj : j = k
    · simp [hj, hsets, hx]
    · simp [hj]
  frame := by
    have frame := (a.state.updSlot k f).evaluateBand_frame k
    rw [State.slot_updSlot, if_pos rfl, ← hx] at frame
    refine Eq.trans (b := (a.state.updSlot k f).evaluateBand k) rfl (frame.trans ?_)
    rw [crossingsOf_singleton, hsets, Bool.true_and]
    cases (x k).crosses with
    | true => simp only [if_true, true_and, crossings]; rfl
    | false => simp only [Bool.false_eq_true, false_and, if_false, or_no_flag, crossings]; rfl
  due := by simp [TickAcc.revalue, hdue]
  updated := by simp [TickAcc.revalue, hsets]

/-- A record changed without a value set: no evaluation, and due or not. -/
theorem TickAcc.updSlot_runs (a : TickAcc) (k : Nat) {f : Record → Record} (hx : x k = f (a.state.slot k))
    (hsets : sets k = false) :
    a.Runs [k] x sets due { a with state := a.state.updSlot k f, due := if due k then a.due ++ [k] else a.due } where
  slot j := by
    refine (a.state.slot_updSlot k f j).trans ?_
    by_cases hj : j = k
    · simp [hj, hsets, hx]
    · simp [hj]
  frame := by
    rw [crossingsOf_singleton, hsets, Bool.false_and]
    rfl
  due := by
    cases hdue : due k <;> simp [hdue]
  updated := by simp [hsets]

/-- What a command leaves that changes the records of `l` by `f`, evaluates each and makes them due (R86, R87, R141). -/
theorem State.revalued {s t : State} {l : List Nat} (hl : l.Nodup) {f : Record → Record} (standing : ∀ r, (f r).standing = r.standing)
    (ht : (l.foldl (fun s k => (s.updSlot k f).evaluateBand k) s).joinGroup l = t) :
    let x := fun k => f (s.slot k)
    let found := crossings ((l.filter (fun k => (x k).crosses)).map (fun k => crossingEntry k (x k))) s.alerts s.stu.sticky
    (∀ k, t.slot k = if k ∈ l then s.madeDue k ((x k).evaluated s.agu.alertFrames) else s.slot k)
    ∧ t = { s with
        ftb := { s.ftb with slots := t.ftb.slots }, alerts := found.1, stu := { s.stu with sticky := found.2 }
        ptr := { s.ptr with queue := s.queueWith l } } := by
  have runs : (⟨s, [], 0⟩ : TickAcc).Runs l (fun k => f (s.slot k)) (fun _ => true) (fun _ => true)
      (l.foldl (TickAcc.revalue fun s k => (s.updSlot k f).evaluateBand k) ⟨s, [], 0⟩) :=
    .foldl hl s.slot s.agu (fun b k _ _ hbase => b.revalue_runs k (by rw [hbase]) rfl rfl) rfl fun _ _ => rfl
  have folded : (l.foldl (TickAcc.revalue fun s k => (s.updSlot k f).evaluateBand k) ⟨s, [], 0⟩).state
      = l.foldl (fun s k => (s.updSlot k f).evaluateBand k) s := TickAcc.foldl_revalue ..
  exact runs.joined_all (fun k _ => standing _) (by rw [folded, ht])

end

end Sys2Proof.Machine
end

section
/-!
PROOFS, the guard (Table 4-2), band evaluation (R86 to R90), ALERTS (R91) and the commands that set records afresh (R83 to R85).
-/

namespace Sys2Proof.Machine

/-! ## Message quantities -/

theorem u24_eq_number24 (a b c : Byte) (rest : List Byte) : u24 (a :: b :: c :: rest) 0 = number24 a b c := by
  simp only [u24, u16, u8, number24, List.getD_cons_zero, List.getD_cons_succ]
  omega

theorem s32_value (a b c d v3 v2 v1 v0 : Byte) : s32 [a, b, c, d, v3, v2, v1, v0] 4 = signed32 v3 v2 v1 v0 :=
  (s32_append [a, b, c, d] [v3, v2, v1, v0] 0).trans (s32_eq_signed32 v3 v2 v1 v0 [])

theorem instrumentOk_eq_false_iff (n : Nat) : instrumentOk n = false ↔ n = 0 ∨ 1048575 < n := by
  rw [← Bool.not_eq_true, instrumentOk_iff]
  omega

/-! ## The guard (R69 to R71) -/

theorem within_eq_true_iff (a b : Int) (f : Nat) : within a b f = true ↔ |a - b| ≤ f := by
  simp only [within, decide_eq_true_eq, Int.abs_eq_natAbs, Int.ofNat_le]

theorem clampTick_eq_clamped (kind : Kind) {v : Int} (hlo : -2147483648 ≤ v) (hhi : v ≤ 2147483647) :
    clampTick kind v = clamped kind v := by
  simp only [clampTick, clamped]
  by_cases hkind : kind = .size
  · simp only [hkind, true_and]
    omega
  · simp only [hkind, false_and, if_false]
    omega

theorem guardVerdict_of_some {lead : Record} {c : Int} (hcurrent : lead.current = some c) (v : Int) : guardVerdict lead v =
    if lead.settings.filter = 0 ∨ |v - c| ≤ lead.settings.filter then .accepted
    else if (∃ sv, lead.suspectValue = some sv ∧ |v - sv| ≤ lead.settings.filter) then .confirmed
    else if lead.holdCount = 3 then .capped
    else .held := by
  simp only [guardVerdict, hcurrent, Bool.or_eq_true, decide_eq_true_eq, within_eq_true_iff]
  cases lead.suspectValue with
  | none => simp
  | some sv => simp [within_eq_true_iff]

/-- Settles O23: the guard row by row, the clamp over the range of a value, and the numbers of the outcomes. -/
theorem guardFollowsTable : Obligations.GuardFollowsTable := by
  refine ⟨fun lead v => ?_, fun kind v hlo hhi => clampTick_eq_clamped kind hlo hhi, rfl⟩
  cases hcurrent : lead.current with
  | none => simp only [guardVerdict, hcurrent]
  | some c => exact guardVerdict_of_some hcurrent v

/-! ## Band evaluation (R86 to R90) -/

/-- Settles O30, by the two rules of band evaluation: what it makes of the records, and what else it writes. -/
theorem bandEvaluationAndCrossing : Obligations.BandEvaluationAndCrossing := by
  intro s k
  have slot := (s.evaluateBand_changes k).slot
  refine ⟨by simpa using slot k, fun j hj => by simpa [hj] using slot j, s.evaluateBand_frame k⟩

/-! ## ALERTS (R91) -/

theorem alertsBody_of_count {m : Message} (hcount : ¬ (u8 m.params 0 < 1 ∨ 8 < u8 m.params 0)) (s : State) :
    alertsBody m s = .done { s with alerts := s.alerts.drop (u8 m.params 0) }
      (byte (s.alerts.take (u8 m.params 0)).length :: (s.alerts.take (u8 m.params 0)).flatMap AlertEntry.bytes) := by
  rw [alertsBody, if_neg hcount]

theorem alertsBody_of_bad_count {m : Message} (hcount : u8 m.params 0 < 1 ∨ 8 < u8 m.params 0) (s : State) :
    alertsBody m s = .refuse .badArg := by
  rw [alertsBody, if_pos hcount]

/-- Settles O29: the list is split at the count asked for. -/
theorem alertsRemovesOldest : Obligations.AlertsRemovesOldest := by
  intro s n reply ready
  refine ⟨fun hbad => ?_, fun hlo hhi => ⟨s.alerts.take n.toNat, s.alerts.drop n.toNat, ?_, List.length_take, ?_⟩⟩
  · exact exec_refused ready rfl (alertsBody_of_bad_count (m := ⟨0x25, [n]⟩) (hbad.imp_left fun hzero => Nat.lt_one_iff.2 hzero) _)
  · exact (List.take_append_drop ..).symm
  · have removed := exec_done ready rfl (alertsBody_of_count (m := ⟨0x25, [n]⟩)
      (not_or.2 ⟨Nat.not_lt.2 hlo, Nat.not_lt.2 hhi⟩) (s.taken reply)) rfl
    exact removed

/-! ## STALE (R85) -/

theorem mem_allKinds (kind : Kind) : kind ∈ allKinds := by cases kind <;> decide

theorem State.ChainsSound.mem_instrumentRecords {s : State} (h : s.ChainsSound) {n k : Nat} :
    k ∈ s.instrumentRecords n ↔ (s.isLive k && (s.slot k).instrument == n) = true := by
  simp only [State.instrumentRecords, List.mem_flatMap, h.mem_mirrors, mem_allKinds, true_and, Bool.and_eq_true, beq_iff_eq]
  exact ⟨fun ⟨_, live, hi, _⟩ => ⟨live, hi⟩, fun ⟨live, hi⟩ => ⟨_, live, hi, rfl⟩⟩

/-- Updates of several records touch nothing but records. -/
theorem State.foldl_updSlot_frame (g : Record → Record) (l : List Nat) (s : State) :
    l.foldl (fun t k => t.updSlot k g) s
      = { s with ftb := { s.ftb with slots := (l.foldl (fun t k => t.updSlot k g) s).ftb.slots } } := by
  induction l generalizing s with
  | nil => rfl
  | cons j rest ih =>
    have frame := ih (s.updSlot j g)
    rw [List.foldl_cons]
    generalize rest.foldl (fun t k => t.updSlot k g) (s.updSlot j g) = t at frame ⊢
    exact frame

/-- Records marked one after the other, any of them more than once. -/
theorem State.foldl_markStale_slot (l : List Nat) (s : State) (k : Nat) :
    (l.foldl State.markStale s).slot k = if k ∈ l then { s.slot k with stale := true } else s.slot k := by
  induction l generalizing s with
  | nil => rfl
  | cons j rest ih =>
    rw [List.foldl_cons, ih, State.markStale, State.slot_updSlot]
    by_cases hj : k = j <;> by_cases hrest : k ∈ rest <;> simp [hj, hrest]

theorem State.foldl_markStale_frame (l : List Nat) (s : State) :
    l.foldl State.markStale s = { s with ftb := { s.ftb with slots := (l.foldl State.markStale s).ftb.slots } } :=
  State.foldl_updSlot_frame (fun r => { r with stale := true }) l s

theorem staleBody_of_bad {m : Message} (hbad : instrumentOk (u24 m.params 0) = false) (s : State) :
    staleBody m s = .refuse .badArg := by
  simp [staleBody, hbad]

theorem staleBody_of_ok {m : Message} (hok : instrumentOk (u24 m.params 0) = true) (s : State) : staleBody m s =
    .done (((s.instrumentRecords (u24 m.params 0)).foldl State.markStale s).joinGroup (s.instrumentRecords (u24 m.params 0))) [] := by
  simp [staleBody, hok]

/-- The records of an instrument marked and made due as one group (R85). -/
theorem State.ChainsSound.marked {s t : State} (h : s.ChainsSound) {n : Nat}
    (ht : ((s.instrumentRecords n).foldl State.markStale s).joinGroup (s.instrumentRecords n) = t) :
    let named := fun k => s.isLive k && (s.slot k).instrument == n
    (∀ k, t.slot k = if named k then s.madeDue k { s.slot k with stale := true } else s.slot k)
    ∧ t = { s with
        ftb := { s.ftb with slots := t.ftb.slots }
        ptr := { s.ptr with queue := s.ptr.queue ++ allSlots.filter (fun k => named k && s.joins k) } } := by
  intro named
  have mem {k : Nat} : k ∈ s.instrumentRecords n ↔ named k = true := h.mem_instrumentRecords
  have group : s.queueWith (s.instrumentRecords n) = s.ptr.queue ++ allSlots.filter (fun k => named k && s.joins k) := by
    rw [State.queueWith, ascending, List.filter_filter]
    refine congrArg _ (List.filter_congr fun k _ => ?_)
    rw [Bool.and_comm, Bool.eq_iff_iff.2 (List.contains_iff_mem.trans mem)]
  have slots := State.foldl_markStale_slot (s.instrumentRecords n) s
  have frame := State.foldl_markStale_frame (s.instrumentRecords n) s
  generalize (s.instrumentRecords n).foldl State.markStale s = u at ht slots frame
  have same : s.SameStanding u := by
    refine ⟨fun k => ?_, by rw [frame]⟩
    rw [slots]
    split <;> rfl
  obtain ⟨joined, rest⟩ := same.joined (by rw [frame]) (s.instrumentRecords n)
  rw [ht] at joined rest
  refine ⟨fun k => ?_, ?_⟩
  · rw [joined, slots]
    by_cases hk : named k = true
    · rw [if_pos (mem.2 hk), if_pos (mem.2 hk), if_pos hk]
    · rw [if_neg (mt mem.1 hk), if_neg (mt mem.1 hk), if_neg hk]
  · rw [group] at rest
    rw [rest, frame]

theorem State.ChainsSound.taken {s : State} (h : s.ChainsSound) (reply : Bool) : (s.taken reply).ChainsSound := { h with }

/-- Settles O28: the records of the instrument are marked, and join the queue as one group. -/
theorem staleMarksInstrument : Obligations.StaleMarksInstrument := by
  intro s a b c reply sound ready m n named
  have hcode : u24 m.params 0 = n := u24_eq_number24 a b c []
  refine ⟨fun hbad => exec_refused ready rfl (staleBody_of_bad (by rwa [hcode, instrumentOk_eq_false_iff]) _), fun hlo hhi => ?_⟩
  have hbody := staleBody_of_ok (m := m) (by rw [hcode]; exact (instrumentOk_iff n).2 ⟨hlo, hhi⟩) (s.taken reply)
  rw [hcode] at hbody
  generalize ht : (((s.taken reply).instrumentRecords n).foldl State.markStale (s.taken reply)).joinGroup
    ((s.taken reply).instrumentRecords n) = t at hbody
  obtain ⟨slots, frame⟩ := (sound.taken reply).marked ht
  exact ⟨t, exec_done (c := .stale) ready rfl hbody (by rw [frame]), slots, frame⟩

/-! ## REFER and EXTREMES_CLEAR (R83, R84) -/

theorem saturate_eq_saturated (v : Int) : saturate v = saturated v := by
  simp only [saturate, saturated]
  omega

theorem Record.endTick_eq_tickEnded (r : Record) : r.endTick = r.tickEnded := by
  unfold Record.endTick Record.tickEnded
  by_cases hhighlight : r.highlight = .tick <;> simp [hhighlight]

/-- The value of a NET record as the model forms it (R79, R83). -/
theorem Record.withReference_eq (r : Record) (reference : Option Int) :
    let value := netValue reference r.lastOperand
    r.withReference reference = { r.tickEnded with
      reference := reference
      current := value
      previous := if r.current = none then r.previous else r.current
      newValue := if r.current = none ∧ value = none then r.newValue else true
      direction := if value = none then .unset else .first } := by
  unfold Record.withReference netValue
  cases reference with
  | none => rfl
  | some a => cases r.lastOperand <;> simp only [saturate_eq_saturated]

theorem Record.referred_eq_withReference (r : Record) (reference : Option Int) :
    r.referred reference = r.withReference reference := by
  rw [Record.referred_eq, Record.endTick_eq_tickEnded, Record.rereferenced, Record.withReference_eq]
  cases r.current <;> cases netValue reference r.lastOperand <;> simp [Record.tickEnded]

theorem Record.restarted_eq_restartedAt (r : Record) (value : Option Int) : r.restarted value = r.restartedAt value := by
  rw [Record.restarted, Record.endTick_eq_tickEnded, Record.restartedAt]
  cases r.current <;> cases value <;> simp [Record.tickEnded]

theorem Record.withReference_standing (r : Record) (reference : Option Int) : (r.withReference reference).standing = r.standing := rfl

theorem Record.restartedAt_standing (r : Record) (value : Option Int) : (r.restartedAt value).standing = r.standing := rfl

theorem State.referSlot_eq (reference : Option Int) :
    State.referSlot reference = fun s k => (s.updSlot k (fun r => r.withReference reference)).evaluateBand k := by
  funext s k
  simp only [State.referSlot, Record.referred_eq_withReference]

theorem State.restartSlot_eq (value : Option Int) :
    State.restartSlot value = fun s k => (s.updSlot k (fun r => r.restartedAt value)).evaluateBand k := by
  funext s k
  simp only [State.restartSlot, Record.restarted_eq_restartedAt]

theorem State.restartValue_eq (s : State) (n : Nat) :
    s.restartValue n = (s.lead n .last).bind (fun l => (s.slot l).current) := by
  unfold State.restartValue
  cases s.lead n .last <;> rfl

/-- Records of two kinds are different ones. -/
theorem State.ChainsSound.mirrors_disjoint {s : State} (h : s.ChainsSound) {n : Nat} {kind other : Kind} (hne : kind ≠ other) :
    (s.mirrors n kind).Disjoint (s.mirrors n other) := by
  intro k hk hother
  exact hne ((h.mem_mirrors.1 hk).2.2.symm.trans (h.mem_mirrors.1 hother).2.2)

theorem referBody_of_bad {m : Message} (hbad : instrumentOk (u24 m.params 0) = false ∨ 1 < u8 m.params 3) (s : State) :
    referBody m s = .refuse .badArg := by
  unfold referBody
  rcases hbad with hcode | hflag
  · simp [hcode]
  · simp [hflag]

theorem referBody_of_ok {m : Message} (hcode : instrumentOk (u24 m.params 0) = true) (hflag : u8 m.params 3 ≤ 1) (s : State) :
    referBody m s = .done (((s.mirrors (u24 m.params 0) .net).foldl
      (State.referSlot (if u8 m.params 3 = 1 then some (max (s32 m.params 4) (-2147483647)) else none)) s).joinGroup
        (s.mirrors (u24 m.params 0) .net)) [] := by
  simp [referBody, hcode, Nat.not_lt.2 hflag]

theorem extremesClearBody_of_bad {m : Message} (hbad : instrumentOk (u24 m.params 0) = false) (s : State) :
    extremesClearBody m s = .refuse .badArg := by
  simp [extremesClearBody, hbad]

theorem extremesClearBody_of_ok {m : Message} (hok : instrumentOk (u24 m.params 0) = true) (s : State) :
    extremesClearBody m s = .done (((s.mirrors (u24 m.params 0) .high ++ s.mirrors (u24 m.params 0) .low).foldl
      (State.restartSlot (s.restartValue (u24 m.params 0))) s).joinGroup
        (s.mirrors (u24 m.params 0) .high ++ s.mirrors (u24 m.params 0) .low)) [] := by
  simp only [extremesClearBody, hok, Bool.not_true, Bool.false_eq_true, if_false]

/-- Settles O27: both commands change records of their own, distinct, one after the other, evaluate each and make them due. -/
theorem referAndExtremesSetAfresh : Obligations.ReferAndExtremesSetAfresh := by
  constructor
  · intro s a b c flag r3 r2 r1 r0 reply sound ready m n reference nets x
    have hcode : u24 m.params 0 = n := u24_eq_number24 a b c _
    have hflag : u8 m.params 3 = flag.toNat := rfl
    refine ⟨fun hbad => exec_refused ready rfl (referBody_of_bad ?_ _), fun hlo hhi hle => ?_⟩
    · rw [hcode, hflag, instrumentOk_eq_false_iff]
      exact or_assoc.2 hbad
    · have hbody := referBody_of_ok (m := m) (by rw [hcode]; exact (instrumentOk_iff n).2 ⟨hlo, hhi⟩) hle (s.taken reply)
      have hreference : (if u8 m.params 3 = 1 then some (max (s32 m.params 4) (-2147483647)) else none) = reference := by
        rw [hflag, show s32 m.params 4 = signed32 r3 r2 r1 r0 from s32_value ..]
        exact if_congr (BitVec.toNat_eq (y := 1)).symm rfl rfl
      rw [hcode, hreference, State.referSlot_eq] at hbody
      generalize ht : State.joinGroup _ _ = t at hbody
      obtain ⟨slots, frame⟩ := State.revalued ((sound.taken reply).mirrors_nodup n .net)
        (fun r => r.withReference_standing reference) ht
      exact ⟨t, exec_done (c := .refer) ready rfl hbody (by rw [frame]), slots, frame⟩
  · intro s a b c reply sound ready m n value records x
    have hcode : u24 m.params 0 = n := u24_eq_number24 a b c _
    refine ⟨fun hbad => exec_refused ready rfl (extremesClearBody_of_bad (by rwa [hcode, instrumentOk_eq_false_iff]) _),
      fun hlo hhi => ?_⟩
    have hbody := extremesClearBody_of_ok (m := m) (by rw [hcode]; exact (instrumentOk_iff n).2 ⟨hlo, hhi⟩) (s.taken reply)
    have hvalue : (s.taken reply).restartValue n = value := State.restartValue_eq _ n
    rw [hcode, hvalue, State.restartSlot_eq] at hbody
    generalize ht : State.joinGroup _ _ = t at hbody
    have distinct := (sound.mirrors_nodup n .high).append (sound.mirrors_nodup n .low) (sound.mirrors_disjoint nofun)
    obtain ⟨slots, frame⟩ := State.revalued distinct (fun r => r.restartedAt_standing value) ht
    exact ⟨t, exec_done (c := .extremesClear) ready rfl hbody (by rw [frame]), slots, frame⟩

end Sys2Proof.Machine
end

section
/-!
PROOFS, one tick (R69 to R76): the outcome and the way of a tick, what a HELD tick stores, and what an accepted one sets on the mirrors
of its key.
-/

namespace Sys2Proof.Machine

/-! ## TICK (R67) -/

theorem tickBody_of_ok {m : Message} {s : State} {kind : Kind} (hcode : instrumentOk (u24 m.params 0) = true)
    (hkind : u8 m.params 3 = kind.number) (htick : kind.number ≤ 3) {o : TickOutcome} {a : TickAcc}
    (hevaluate : evaluateTick ⟨s, [], 0⟩ (u24 m.params 0) kind (s32 m.params 4) = (o, a)) :
    tickBody m s = .done (a.state.joinGroup a.due) [BitVec.ofNat 8 o.number, BitVec.ofNat 8 a.updated] := by
  have named : Kind.ofNumber (u8 m.params 3) = some kind := (Kind.ofNumber_eq_some_iff _ _).2 hkind
  have tickable : kind.tickable = true := kind.tickable_iff.2 (Nat.lt_succ_of_le htick)
  simp only [tickBody, hcode, named, tickable, hevaluate, Bool.not_true, Bool.false_eq_true, if_false]
  rfl

/-- A TICK that passes its checks answers with the outcome of its tick. -/
theorem exec_tick {s : State} {a b c kindByte v3 v2 v1 v0 : Byte} {reply : Bool} {kind : Kind}
    (ready : s.Ready .tick ⟨0x20, [a, b, c, kindByte, v3, v2, v1, v0]⟩ reply) (hlo : 1 ≤ number24 a b c)
    (hhi : number24 a b c ≤ 1048575) (hkind : kindByte.toNat = kind.number) (htick : kind.number ≤ 3) {o : TickOutcome}
    {acc : TickAcc} (hevaluate : evaluateTick ⟨s.taken reply, [], 0⟩ (number24 a b c) kind (signed32 v3 v2 v1 v0) = (o, acc)) :
    exec .tick s = .next ((acc.state.joinGroup acc.due).answered ⟨0x20, [a, b, c, kindByte, v3, v2, v1, v0]⟩ reply .ok
      [BitVec.ofNat 8 o.number, BitVec.ofNat 8 acc.updated]) := by
  have hcode : u24 [a, b, c, kindByte, v3, v2, v1, v0] 0 = number24 a b c := u24_eq_number24 a b c _
  have hlki : (acc.state.joinGroup acc.due).lki = (s.taken reply).lki := by
    have kept := (evaluateTick_recordsOnly ⟨s.taken reply, [], 0⟩ (number24 a b c) kind (signed32 v3 v2 v1 v0)).lki
    rw [hevaluate] at kept
    exact (State.joinGroup_lki _ _).trans kept
  refine exec_done (c := .tick) ready rfl
    (tickBody_of_ok (m := ⟨0x20, [a, b, c, kindByte, v3, v2, v1, v0]⟩) ?_ hkind htick ?_) hlki
  · exact (congrArg _ hcode).trans ((instrumentOk_iff _).2 ⟨hlo, hhi⟩)
  · exact (congrArg₂ (evaluateTick _ · kind ·) hcode (s32_value ..)).trans hevaluate

/-! ## The ways of a tick (R70 to R73) -/

theorem classOf_eq_changeClass (old : Option Int) (v : Int) : classOf old v = changeClass old v := by
  cases old <;> rfl

/-- A tick's value is in the range of the clamp. -/
theorem clampTick_signed32 (kind : Kind) (v3 v2 v1 v0 : Byte) :
    clampTick kind (signed32 v3 v2 v1 v0) = clamped kind (signed32 v3 v2 v1 v0) := by
  have range := s32_range [v3, v2, v1, v0] 0
  rw [s32_eq_signed32] at range
  exact clampTick_eq_clamped kind range.1 range.2

section
variable {s : State} {n lead : Nat} {others : List Nat} {kind : Kind} {value v : Int} (hclamp : clampTick kind value = v)
include hclamp

theorem evaluateTick_of_held (hmirrors : s.mirrors n kind = lead :: others) (hheld : guardVerdict (s.slot lead) v = .held) :
    evaluateTick ⟨s, [], 0⟩ n kind value = (.held, ⟨s.holdPrint lead (lead :: others) v, lead :: others, 0⟩) := by
  simp only [evaluateTick, hclamp, hmirrors, hheld, List.nil_append]

theorem evaluateTick_of_accepted (hmirrors : s.mirrors n kind = lead :: others) {o : TickOutcome}
    (hverdict : guardVerdict (s.slot lead) v = o) (hheld : o ≠ .held) :
    evaluateTick ⟨s, [], 0⟩ n kind value = (o, acceptTick ⟨s, [], 0⟩ n kind v (changeClass (s.slot lead).current v)) := by
  simp only [evaluateTick, hclamp, hmirrors, hverdict, classOf_eq_changeClass]

theorem evaluateTick_of_no_lead (hmirrors : s.mirrors n kind = []) : evaluateTick ⟨s, [], 0⟩ n kind value =
    if kind = .last ∧ s.hasDerived n then (.accepted, acceptTick ⟨s, [], 0⟩ n kind v .first) else (.noRecord, ⟨s, [], 0⟩) := by
  simp only [evaluateTick, hclamp, hmirrors]

end

/-! ## HELD (R72) -/

section
variable (s : State) (lead : Nat) (others : List Nat)

theorem State.holdPrint_frame (mirrors : List Nat) (v : Int) : s.holdPrint lead mirrors v = { s with
    ftb := { s.ftb with slots := (s.holdPrint lead mirrors v).ftb.slots }
    stu := { s.stu with sticky := s.stu.sticky ||| 0x20 } } := by
  have frame := State.foldl_updSlot_frame (fun r => { r with suspect := true }) mirrors
    (s.updSlot lead (fun r => { r with suspectValue := some v, holdCount := r.holdCount + 1 }))
  rw [State.holdPrint]
  generalize mirrors.foldl _ (s.updSlot lead _) = t at frame ⊢
  rw [frame]
  rfl

/-- A HELD tick stores its print and makes its mirrors due (R72). -/
theorem State.holdPrint_group {t : State} (hl : (lead :: others).Nodup) (v : Int)
    (ht : (s.holdPrint lead (lead :: others) v).joinGroup (lead :: others) = t) :
    (∀ k, t.slot k = if k ∈ lead :: others then s.madeDue k ((s.slot k).printed v (k = lead)) else s.slot k)
    ∧ t = { s with
        ftb := { s.ftb with slots := t.ftb.slots }
        stu := { s.stu with sticky := s.stu.sticky ||| 0x20 }
        ptr := { s.ptr with queue := s.queueWith (lead :: others) } } := by
  have slots := (s.holdPrint_changes lead others hl v).slot
  have frame := s.holdPrint_frame lead (lead :: others) v
  generalize s.holdPrint lead (lead :: others) v = u at ht slots frame
  have same : s.SameStanding u := by
    refine ⟨fun k => ?_, by rw [frame]⟩
    rw [slots]
    split <;> rfl
  obtain ⟨joined, rest⟩ := same.joined (by rw [frame]) (lead :: others)
  rw [ht] at joined rest
  refine ⟨fun k => ?_, rest.trans (by rw [frame])⟩
  rw [joined, slots]
  split <;> rfl

end

/-- Settles O24: the HELD way of a tick, and the room that a HELD verdict leaves in the hold count. -/
theorem heldTickStoresPrint : Obligations.HeldTickStoresPrint := by
  intro s a b c kindByte v3 v2 v1 v0 reply kind lead others sound ready hlo hhi hkind htick hmirrors hheld
  have hevaluate := evaluateTick_of_held (s := s.taken reply) (clampTick_signed32 kind v3 v2 v1 v0) hmirrors hheld
  have hexec := exec_tick ready hlo hhi hkind htick hevaluate
  generalize clamped kind (signed32 v3 v2 v1 v0) = v at hexec hheld ⊢
  generalize ht : State.joinGroup _ _ = t at hexec
  obtain ⟨slots, frame⟩ := State.holdPrint_group (s.taken reply) lead others (hmirrors ▸ sound.mirrors_nodup _ kind) v ht
  refine ⟨t, hexec, fun k => ?_, fun hcount => ?_, frame⟩
  · rw [slots]
    simp only [Record.printed, decide_eq_true_eq]
    rfl
  · have hne : (s.slot lead).holdCount ≠ 3 := fun hthree => guardVerdict_ne_held hthree _ hheld
    have raised : (t.slot lead).holdCount = (s.slot lead).holdCount + 1 := by
      rw [slots, if_pos (List.mem_cons_self ..)]
      simp only [Record.printed, State.madeDue, decide_true, if_true]
      rfl
    omega

/-! ## An accepted value on the mirrors of its key (R73 to R76) -/

section
variable (s : State)

theorem State.clearGuard_slot {l : List Nat} (hl : l.Nodup) (j : Nat) :
    (s.clearGuard l).slot j = if j ∈ l then (s.slot j).guardCleared (l.head? == some j) else s.slot j := by
  cases l with
  | nil => rfl
  | cons lead others =>
    have isLead : ((lead :: others).head? == some j) = decide (j = lead) := by
      simp only [List.head?_cons, beq_eq_decide, Option.some.injEq, eq_comm]
    rw [isLead]
    exact (s.clearGuard_changes lead others hl).slot j

theorem State.clearGuard_frame (l : List Nat) :
    s.clearGuard l = { s with ftb := { s.ftb with slots := (s.clearGuard l).ftb.slots } } := by
  cases l with
  | nil => rfl
  | cons lead others =>
    have frame := State.foldl_updSlot_frame (fun r => { r with suspect := false }) (lead :: others)
      (s.updSlot lead (fun r => { r with suspectValue := none, holdCount := 0 }))
    rw [State.clearGuard]
    generalize (lead :: others).foldl _ (s.updSlot lead _) = t at frame ⊢
    rw [frame]
    rfl

end

section
variable {x : Nat → Record} {sets due : Nat → Bool} (a : TickAcc) (k : Nat) {v : Int} {direction : Direction}

/-- A value applied to one record (R75, R76). -/
theorem TickAcc.apply_runs (hx : x k = (a.state.slot k).taking v direction a.state.agu.flashFrames) (hsets : sets k = true)
    (hdue : due k = true) : a.Runs [k] x sets due (a.apply k v direction) :=
  a.revalue_runs k (f := fun r => r.applied v direction a.state.agu.flashFrames) (by rw [hx, Record.applied_eq_taking]) hsets hdue

end

/-- A value accepted for a key, on the mirrors of the key: the guard cleared and the value applied (R73 to R76). -/
def TickAcc.acceptMirrors (a : TickAcc) (n : Nat) (kind : Kind) (v : Int) (direction : Direction) : TickAcc :=
  (a.state.mirrors n kind).foldl (fun a k => a.apply k v direction)
    { a with state := a.state.clearGuard (a.state.mirrors n kind) }

theorem acceptTick_eq (a : TickAcc) (n : Nat) (kind : Kind) (v : Int) (direction : Direction) : acceptTick a n kind v direction =
    if kind = .last then fanOut a.state n v (a.acceptMirrors n kind v direction) else a.acceptMirrors n kind v direction := rfl

theorem State.ChainsSound.acceptMirrors_runs {s : State} (h : s.ChainsSound) (n : Nat) (kind : Kind) (v : Int)
    (direction : Direction) : (⟨s, [], 0⟩ : TickAcc).Runs (s.mirrors n kind)
      (fun k => ((s.slot k).guardCleared (s.lead n kind == some k)).taking v direction s.agu.flashFrames)
      (fun _ => true) (fun _ => true) ((⟨s, [], 0⟩ : TickAcc).acceptMirrors n kind v direction) := by
  have hl := h.mirrors_nodup n kind
  have frame := s.clearGuard_frame (s.mirrors n kind)
  have slot := s.clearGuard_slot hl
  refine TickAcc.Runs.of_changed (a := ⟨s.clearGuard (s.mirrors n kind), [], 0⟩) frame (fun j hj => ?_)
    (.foldl hl (fun k => (s.slot k).guardCleared (s.lead n kind == some k)) s.agu
      (fun b k _ hagu hbase => b.apply_runs k (by rw [hagu, hbase]) rfl rfl) ?_ fun k hk => ?_)
  · exact (slot j).trans (if_neg hj)
  · have agu : (s.clearGuard (s.mirrors n kind)).agu = s.agu := by rw [frame]
    exact agu
  · exact (slot k).trans (if_pos hk)

/-- Settles O25: the mirrors run through as one, in chain order. -/
theorem acceptedTickSetsMirrors : Obligations.AcceptedTickSetsMirrors := by
  intro s a b c kindByte v3 v2 v1 v0 reply kind lead others sound ready hlo hhi hkind htick hlast hmirrors hheld
  have hevaluate := evaluateTick_of_accepted (s := s.taken reply) (clampTick_signed32 kind v3 v2 v1 v0) hmirrors rfl hheld
  rw [acceptTick_eq, if_neg hlast] at hevaluate
  have hexec := exec_tick ready hlo hhi hkind htick hevaluate
  generalize clamped kind (signed32 v3 v2 v1 v0) = v at hexec ⊢
  have runs := (sound.taken reply).acceptMirrors_runs (number24 a b c) kind v (changeClass ((s.taken reply).slot lead).current v)
  have l : (s.taken reply).mirrors (number24 a b c) kind = lead :: others := hmirrors
  have leads (k : Nat) : ((s.taken reply).lead (number24 a b c) kind == some k) = (k == lead) := by
    rw [State.lead_eq_head?, l, List.head?_cons, Option.some_beq_some, Bool.beq_comm]
  simp only [l, leads] at runs
  have hdue := runs.due.trans (List.filter_true _)
  have hupdated := runs.updated
  rw [List.filter_true, Nat.zero_add, List.length_cons] at hupdated
  rw [hdue, hupdated] at hexec
  generalize ht : State.joinGroup _ _ = t at hexec
  obtain ⟨slots, frame⟩ := runs.joined_all (fun k _ => rfl) ht
  exact ⟨t, hexec, slots, frame⟩

end Sys2Proof.Machine
end

section
/-!
PROOFS, the LAST value fanned out (R78 to R81): the four kinds of an instrument run through one after the other, each record from what
the tick found.
-/

namespace Sys2Proof.Machine

/-! ## What an accepted LAST value makes of a record -/

section
variable {s : State} {v : Int} {direction : Direction} {k : Nat}

theorem State.traded_last (hkind : (s.slot k).kind = .last) : s.traded v direction k =
    ((s.slot k).guardCleared (s.lead (s.slot k).instrument .last == some k)).taking v direction s.agu.flashFrames := by
  simp [State.traded, State.tradeSets, hkind]

theorem State.traded_net_of_some {reference : Int} (hkind : (s.slot k).kind = .net)
    (hreference : (s.slot k).reference = some reference) : s.traded v direction k =
      ({ s.slot k with lastOperand := some v } : Record).taking (saturated (v - reference))
        (changeClass (s.slot k).current (saturated (v - reference))) s.agu.flashFrames := by
  simp [State.traded, State.tradeSets, hkind, hreference]

theorem State.traded_net_of_none (hkind : (s.slot k).kind = .net) (hreference : (s.slot k).reference = none) :
    s.traded v direction k = { s.slot k with lastOperand := some v, stale := false } := by
  simp [State.traded, State.tradeSets, hkind, hreference]

theorem State.traded_extreme (hkind : (s.slot k).kind = .high ∨ (s.slot k).kind = .low) : s.traded v direction k =
    if s.tradeSets v k then (s.slot k).taking v (changeClass (s.slot k).current v) s.agu.flashFrames
    else { s.slot k with stale := false } := by
  rcases hkind with hkind | hkind <;> simp [State.traded, hkind]

theorem State.traded_standing : (s.traded v direction k).standing = (s.slot k).standing := by
  have operand : (if (s.slot k).kind = .net then { s.slot k with lastOperand := some v } else s.slot k).standing
      = (s.slot k).standing := by
    split <;> rfl
  rw [← operand, State.traded]
  generalize (if (s.slot k).kind = .net then { s.slot k with lastOperand := some v } else s.slot k) = r
  cases s.tradeSets v k with
  | false => rfl
  | true => cases r.kind <;> simp only [if_true] <;> rfl

end

/-! ## Steps of the fan-out -/

section
variable {x : Nat → Record} {sets due : Nat → Bool} (a : TickAcc) (k : Nat)

/-- A record an accepted LAST value does not change: its stale flag cleared, and due when it was set (R81). -/
theorem TickAcc.freshen_runs (hx : x k = { a.state.slot k with stale := false }) (hsets : sets k = false)
    (hdue : due k = (a.state.slot k).stale) : a.Runs [k] x sets due (a.freshen k) := by
  have runs := a.updSlot_runs k (x := x) (due := due) (f := fun r => { r with stale := false }) hx hsets
  rwa [hdue] at runs

/-- A step that begins with the operand of a NET record noted (R79). -/
theorem TickAcc.Runs.of_withOperand {b : TickAcc} {v : Int} (h : (a.withOperand k v).Runs [k] x sets due b) :
    a.Runs [k] x sets due b :=
  TickAcc.Runs.of_changed (a := a.withOperand k v) (s := a.state) rfl
    (fun _ hj => (a.withOperand_changes k v).slot_of_not_mem hj) h

theorem TickAcc.withOperand_slot (v : Int) :
    (a.withOperand k v).state.slot k = { a.state.slot k with lastOperand := some v } :=
  (a.withOperand_changes k v).slot_mem (List.mem_singleton_self k)

end

section
variable {s : State} {v : Int} (direction : Direction) {a : TickAcc} {k : Nat} (hagu : a.state.agu = s.agu)
  (hslot : a.state.slot k = s.slot k)
include hagu hslot

theorem fanNet_runs (hkind : (s.slot k).kind = .net) :
    a.Runs [k] (s.traded v direction) (s.tradeSets v) (fun k => s.tradeSets v k || (s.slot k).stale) (fanNet v a k) := by
  have hsets : s.tradeSets v k = (s.slot k).reference.isSome := by simp only [State.tradeSets, hkind]
  have noted := a.withOperand_slot k v
  rw [hslot] at noted
  cases hreference : (s.slot k).reference with
  | some reference =>
    rw [fanNet_eq_of_some (hslot ▸ hreference), hslot, saturate_eq_saturated, classOf_eq_changeClass]
    have set : s.tradeSets v k = true := by rw [hsets, hreference]; rfl
    refine .of_withOperand a k (TickAcc.apply_runs _ k ?_ set (by rw [set]; rfl))
    rw [State.traded_net_of_some hkind hreference, noted]
    exact congrArg _ (congrArg Agu.flashFrames hagu.symm)
  | none =>
    rw [fanNet_eq_of_none (hslot ▸ hreference)]
    have unset : s.tradeSets v k = false := by rw [hsets, hreference]; rfl
    refine .of_withOperand a k (TickAcc.freshen_runs _ k ?_ unset (by rw [unset, noted]; rfl))
    rw [State.traded_net_of_none hkind hreference, noted]

/-- One step for HIGH and LOW: `beats` says whether the value moves the record, `way` the direction it then moves. -/
theorem fanExtreme_runs (hkind : (s.slot k).kind = .high ∨ (s.slot k).kind = .low) {beats : Int → Bool} {way : Direction}
    (hsets : s.tradeSets v k = (s.slot k).current.all beats) (hway : ∀ c, beats c → changeClass (some c) v = way) :
    a.Runs [k] (s.traded v direction) (s.tradeSets v) (fun k => s.tradeSets v k || (s.slot k).stale)
      (fanExtreme v beats way a k) := by
  have traded := State.traded_extreme (v := v) (direction := direction) hkind
  have applied {d : Direction} (set : s.tradeSets v k = true) (hclass : changeClass (s.slot k).current v = d) :
      a.Runs [k] (s.traded v direction) (s.tradeSets v) (fun k => s.tradeSets v k || (s.slot k).stale) (a.apply k v d) := by
    refine a.apply_runs k ?_ set (by rw [set]; rfl)
    rw [traded, if_pos set, hclass, hslot, hagu]
  unfold fanExtreme
  rw [hslot]
  cases hcurrent : (s.slot k).current with
  | none => exact applied (by rw [hsets, hcurrent]; rfl) (by rw [hcurrent]; rfl)
  | some c =>
    rw [hcurrent, Option.all_some] at hsets
    dsimp only
    by_cases hbeats : beats c = true
    · rw [if_pos hbeats]
      exact applied (hsets.trans hbeats) (by rw [hcurrent, hway c hbeats])
    · rw [if_neg hbeats]
      have unset : s.tradeSets v k = false := hsets.trans (Bool.not_eq_true _ ▸ hbeats)
      refine a.freshen_runs k ?_ unset (by rw [unset, hslot]; rfl)
      rw [traded, unset, hslot]
      rfl

theorem fanHigh_runs (hkind : (s.slot k).kind = .high) :
    a.Runs [k] (s.traded v direction) (s.tradeSets v) (fun k => s.tradeSets v k || (s.slot k).stale) (fanHigh v a k) := by
  rw [fanHigh_eq]
  refine fanExtreme_runs direction hagu hslot (.inl hkind) (by simp only [State.tradeSets, hkind]) fun c hc => ?_
  exact if_pos (of_decide_eq_true hc)

theorem fanLow_runs (hkind : (s.slot k).kind = .low) :
    a.Runs [k] (s.traded v direction) (s.tradeSets v) (fun k => s.tradeSets v k || (s.slot k).stale) (fanLow v a k) := by
  rw [fanLow_eq]
  refine fanExtreme_runs direction hagu hslot (.inr hkind) (by simp only [State.tradeSets, hkind]) fun c hc => ?_
  have below : v < c := of_decide_eq_true hc
  exact (if_neg (not_lt.2 below.le)).trans (if_pos below)

end

/-! ## The whole run -/

/-- The records an accepted LAST value of an instrument reaches, in the order it reaches them (R78). -/
def State.affected (s : State) (n : Nat) : List Nat := s.mirrors n .last ++ s.mirrors n .net ++ s.mirrors n .high ++ s.mirrors n .low

/-- A run over further records of `s`, none of them met before. -/
theorem TickAcc.Runs.then_foldl {s : State} {l m : List Nat} {x : Nat → Record} {sets due : Nat → Bool} {b : TickAcc}
    (h : (⟨s, [], 0⟩ : TickAcc).Runs l x sets due b) (hm : m.Nodup) (hlm : l.Disjoint m) {f : TickAcc → Nat → TickAcc}
    (step : ∀ (c : TickAcc) k, k ∈ m → c.state.agu = s.agu → c.state.slot k = s.slot k → c.Runs [k] x sets due (f c k)) :
    (⟨s, [], 0⟩ : TickAcc).Runs (l ++ m) x sets due (m.foldl f b) :=
  h.append (.foldl hm s.slot s.agu step h.agu fun k hk => by rw [h.slot, if_neg fun hl => hlm hl hk])

/-- An accepted LAST tick as one run over the records it reaches. -/
theorem State.ChainsSound.acceptTick_runs {s : State} (h : s.ChainsSound) (n : Nat) (v : Int) (direction : Direction) :
    (⟨s, [], 0⟩ : TickAcc).Runs (s.affected n) (s.traded v direction) (s.tradeSets v)
      (fun k => s.tradeSets v k || (s.slot k).stale) (acceptTick ⟨s, [], 0⟩ n .last v direction) := by
  have kindOf {kind : Kind} {k : Nat} (hk : k ∈ s.mirrors n kind) : (s.slot k).kind = kind := (h.mem_mirrors.1 hk).2.2
  have disjoint {kind other : Kind} (hne : kind ≠ other) := h.mirrors_disjoint (n := n) hne
  have lasts := (h.acceptMirrors_runs n .last v direction).congr (y := s.traded v direction) (sets' := s.tradeSets v)
    (due' := fun k => s.tradeSets v k || (s.slot k).stale)
    (fun k hk => by rw [State.traded_last (kindOf hk), (h.mem_mirrors.1 hk).2.1])
    (fun k hk => by simp only [State.tradeSets, kindOf hk]) (fun k hk => by simp only [State.tradeSets, kindOf hk, Bool.true_or])
  have nets := lasts.then_foldl (h.mirrors_nodup n .net) (disjoint nofun)
    fun c k hk hagu hslot => fanNet_runs direction hagu hslot (kindOf hk)
  have highs := nets.then_foldl (h.mirrors_nodup n .high)
    (List.disjoint_append_left.2 ⟨disjoint nofun, disjoint nofun⟩)
    fun c k hk hagu hslot => fanHigh_runs direction hagu hslot (kindOf hk)
  exact highs.then_foldl (h.mirrors_nodup n .low)
    (List.disjoint_append_left.2 ⟨List.disjoint_append_left.2 ⟨disjoint nofun, disjoint nofun⟩, disjoint nofun⟩)
    fun c k hk hagu hslot => fanLow_runs direction hagu hslot (kindOf hk)

/-! ## The tick -/

theorem State.hasDerived_iff (s : State) (n : Nat) : s.hasDerived n = true ↔
    ¬ (s.mirrors n .net = [] ∧ s.mirrors n .high = [] ∧ s.mirrors n .low = []) := by
  simp only [State.hasDerived, List.any_cons, List.any_nil, Bool.or_false, Bool.or_eq_true, Bool.not_eq_true',
    List.isEmpty_eq_false_iff]
  tauto

/-- Settles O26: with a lead or without one, the accepted LAST value runs through the records it reaches. -/
theorem lastValueFansOut : Obligations.LastValueFansOut := by
  intro s a b c kindByte v3 v2 v1 v0 reply outcome direction sound ready hlo hhi hkind n v affected hway
  have hclamp : clampTick .last (signed32 v3 v2 v1 v0) = v := clampTick_signed32 ..
  have hevaluate : evaluateTick ⟨s.taken reply, [], 0⟩ n .last (signed32 v3 v2 v1 v0)
      = (outcome, acceptTick ⟨s.taken reply, [], 0⟩ n .last v direction) := by
    rw [State.lead_eq_head?] at hway
    cases hmirrors : s.mirrors n .last with
    | nil =>
      rw [hmirrors] at hway
      obtain ⟨hreached, rfl, rfl⟩ := hway
      have derived : (s.taken reply).hasDerived n = true := by
        refine (State.hasDerived_iff _ n).2 fun ⟨hnet, hhigh, hlow⟩ => hreached ?_
        simp only [affected, hmirrors, List.nil_append, List.append_eq_nil_iff]
        exact ⟨⟨hnet, hhigh⟩, hlow⟩
      rw [evaluateTick_of_no_lead (s := s.taken reply) hclamp hmirrors, if_pos ⟨rfl, derived⟩]
    | cons lead others =>
      rw [hmirrors] at hway
      obtain ⟨hverdict, hheld, rfl⟩ := hway
      exact evaluateTick_of_accepted (s := s.taken reply) hclamp hmirrors hverdict.symm hheld
  have hexec := exec_tick (kind := .last) ready hlo hhi hkind (by decide) hevaluate
  have runs := (sound.taken reply).acceptTick_runs n v direction
  have hupdated := runs.updated.trans (Nat.zero_add _)
  rw [hupdated] at hexec
  generalize acceptTick ⟨s.taken reply, [], 0⟩ n .last v direction = acc at hexec runs
  obtain ⟨slots, frame⟩ := runs.joined fun k _ => State.traded_standing
  generalize acc.state.joinGroup acc.due = t at hexec slots frame
  exact ⟨t, hexec, slots, frame⟩

end Sys2Proof.Machine
end

section
/-!
PROOFS, TICK and QTICK (R67, R68): the checks, and the ticks of a command told apart from those before them.
-/

namespace Sys2Proof.Machine

/-! ## A tick among others -/

/-- What a tick has done, with slots made due before it. -/
def TickAcc.after (before : List Nat) (a : TickAcc) : TickAcc := { a with due := before ++ a.due }

section
variable (before : List Nat) (a : TickAcc)

theorem TickAcc.after_apply (k : Nat) (v : Int) (direction : Direction) :
    (a.after before).apply k v direction = (a.apply k v direction).after before := by
  simp only [TickAcc.after, TickAcc.apply, List.append_assoc]

theorem TickAcc.after_freshen (k : Nat) : (a.after before).freshen k = (a.freshen k).after before := by
  by_cases hstale : (a.state.slot k).stale <;> simp [TickAcc.after, TickAcc.freshen, hstale]

theorem fanNet_after (v : Int) (k : Nat) : fanNet v (a.after before) k = (fanNet v a k).after before := by
  cases hreference : (a.state.slot k).reference with
  | some reference =>
    rw [fanNet_eq_of_some hreference, fanNet_eq_of_some (a := a.after before) hreference]
    exact (a.withOperand k v).after_apply before ..
  | none =>
    rw [fanNet_eq_of_none hreference, fanNet_eq_of_none (a := a.after before) hreference]
    exact (a.withOperand k v).after_freshen before k

theorem fanExtreme_after (v : Int) (beats : Int → Bool) (direction : Direction) (k : Nat) :
    fanExtreme v beats direction (a.after before) k = (fanExtreme v beats direction a k).after before := by
  unfold fanExtreme
  rw [show (a.after before).state = a.state from rfl, TickAcc.after_freshen, TickAcc.after_apply, TickAcc.after_apply]
  split
  · rfl
  · split <;> rfl

theorem foldl_after {f : TickAcc → Nat → TickAcc} (step : ∀ a k, f (a.after before) k = (f a k).after before) (l : List Nat) :
    l.foldl f (a.after before) = (l.foldl f a).after before := by
  induction l generalizing a with
  | nil => rfl
  | cons k rest ih => rw [List.foldl_cons, step, ih, List.foldl_cons]

theorem fanOut_after (s : State) (n : Nat) (v : Int) : fanOut s n v (a.after before) = (fanOut s n v a).after before := by
  simp only [fanOut, fanHigh_eq, fanLow_eq]
  rw [foldl_after before a fun a k => fanNet_after before a v k, foldl_after before _ fun a k => fanExtreme_after before a v _ _ k,
    foldl_after before _ fun a k => fanExtreme_after before a v _ _ k]

theorem acceptTick_after (n : Nat) (kind : Kind) (v : Int) (direction : Direction) :
    acceptTick (a.after before) n kind v direction = (acceptTick a n kind v direction).after before := by
  have mirrors : (a.after before).acceptMirrors n kind v direction = (a.acceptMirrors n kind v direction).after before :=
    foldl_after before { a with state := a.state.clearGuard (a.state.mirrors n kind) }
      (fun a k => a.after_apply before k v direction) (a.state.mirrors n kind)
  rw [acceptTick_eq, acceptTick_eq, mirrors, show (a.after before).state = a.state from rfl, fanOut_after]
  split <;> rfl

end

/-- A tick knows those before it by the state they left; what it makes due comes after theirs. -/
theorem evaluateTick_eq_after (a : TickAcc) (n : Nat) (kind : Kind) (value : Int) : evaluateTick a n kind value =
    ((evaluateTick ⟨a.state, [], 0⟩ n kind value).1, (evaluateTick ⟨a.state, [], 0⟩ n kind value).2.after a.due) := by
  have start : ({ a with updated := 0 } : TickAcc) = (⟨a.state, [], 0⟩ : TickAcc).after a.due := by
    simp only [TickAcc.after, List.append_nil]
  simp only [evaluateTick, start, acceptTick_after]
  split
  · split <;> rfl
  · split <;> rfl

/-! ## TICK (R67, R70) -/

/-- The checks of TICK in the order of R67. -/
def tickChecks (n kindNumber : Nat) : List (Bool × Result) :=
  [(n = 0 ∨ 1048575 < n, .badArg), (6 < kindNumber, .badArg), (3 < kindNumber, .derived)]

theorem tickBody_of_refusal {m : Message} {r : Result} (hcheck : firstRefusal (tickChecks (u24 m.params 0) (u8 m.params 3)) = some r)
    (s : State) : tickBody m s = .refuse r := by
  simp only [tickChecks, firstRefusal_cons, firstRefusal_nil, decide_eq_true_eq] at hcheck
  unfold tickBody
  by_cases hcode : u24 m.params 0 = 0 ∨ 1048575 < u24 m.params 0
  · rw [if_pos hcode] at hcheck
    simp [(instrumentOk_eq_false_iff _).2 hcode, Option.some.inj hcheck]
  · rw [if_neg hcode] at hcheck
    have ok := eq_true_of_ne_false (mt (instrumentOk_eq_false_iff _).1 hcode)
    cases hkind : Kind.ofNumber (u8 m.params 3) with
    | none =>
      rw [if_pos ((Kind.ofNumber_eq_none_iff _).1 hkind)] at hcheck
      simp [ok, hkind, Option.some.inj hcheck]
    | some kind =>
      have number := (Kind.ofNumber_eq_some_iff _ _).1 hkind
      have named : ¬ 6 < u8 m.params 3 := fun h => by
        rw [(Kind.ofNumber_eq_none_iff _).2 h] at hkind
        cases hkind
      rw [if_neg named] at hcheck
      by_cases hderived : 3 < u8 m.params 3
      · rw [if_pos hderived] at hcheck
        have untickable : kind.tickable = false := by
          rw [← Bool.not_eq_true, kind.tickable_iff]
          omega
        simp [ok, hkind, untickable, Option.some.inj hcheck]
      · rw [if_neg hderived] at hcheck
        cases hcheck

/-! ## QTICK (R68) -/

/-- The checks of QTICK in the order of R68. -/
def qtickChecks (p : List Byte) : List (Bool × Result) :=
  [(u24 p 0 = 0 ∨ 1048575 < u24 p 0, .badArg), (6 < u8 p 3, .badArg), (4 < u8 p 3 + u8 p 4, .badArg)]

theorem qtickBody_eq (m : Message) (s : State) : qtickBody m s =
    match firstRefusal (qtickChecks m.params) with
    | some r => .refuse r
    | none =>
      let whole := evaluateTicks (u24 m.params 0) (qtickValues m.params) ⟨s, [], 0⟩ []
      .done (whole.1.state.joinGroup whole.1.due) whole.2 := by
  simp only [qtickBody, qtickChecks, firstRefusal_cons, firstRefusal_nil, decide_eq_true_eq]
  by_cases hcode : u24 m.params 0 = 0 ∨ 1048575 < u24 m.params 0
  · simp [hcode, (instrumentOk_eq_false_iff _).2 hcode]
  · have ok := eq_true_of_ne_false (mt (instrumentOk_eq_false_iff _).1 hcode)
    by_cases hkind : 6 < u8 m.params 3
    · simp [hcode, ok, hkind]
    · by_cases hcount : 4 < u8 m.params 3 + u8 m.params 4 <;> simp [hcode, ok, hkind, hcount]

/-- The reply bytes of a tick put after those of the ticks before it. -/
def tickOnward (n : Nat) (x : TickAcc × List Byte) (tick : Kind × Int) : TickAcc × List Byte :=
  let (o, acc) := evaluateTick x.1 n tick.1 tick.2
  (acc, x.2 ++ [BitVec.ofNat 8 o.number, BitVec.ofNat 8 acc.updated])

theorem evaluateTicks_eq_foldl (n : Nat) (ticks : List (Kind × Int)) (a : TickAcc) (out : List Byte) :
    evaluateTicks n ticks a out = ticks.foldl (tickOnward n) (a, out) := by
  induction ticks generalizing a out with
  | nil => rfl
  | cons tick rest ih => exact ih ..

/-- QTICK's values are those of the ticks that its first kind and count name (R68). -/
theorem qtickValues_eq {p : List Byte} {ticks : List (Kind × Int)} (hlength : ticks.length = u8 p 4)
    (hticks : ∀ i kind v, ticks[i]? = some (kind, v) → kind.number = u8 p 3 + i ∧ v = s32 p (5 + 4 * i)) :
    qtickValues p = ticks := by
  have each : (List.range (u8 p 4)).map (fun i => (Kind.ofNumber (u8 p 3 + i)).map (fun k => (k, s32 p (5 + 4 * i))))
      = ticks.map some := by
    refine List.ext_getElem (by simp [hlength]) fun i _ hi => ?_
    rw [List.length_map] at hi
    obtain ⟨hnumber, hvalue⟩ := hticks i ticks[i].1 ticks[i].2 (List.getElem?_eq_getElem hi)
    simp only [List.getElem_map, List.getElem_range, (Kind.ofNumber_eq_some_iff _ _).2 hnumber.symm, Option.map_some, ← hvalue]
  calc qtickValues p = ((List.range (u8 p 4)).map
        (fun i => (Kind.ofNumber (u8 p 3 + i)).map (fun k => (k, s32 p (5 + 4 * i))))).filterMap id := by
        rw [List.filterMap_map]; rfl
    _ = ticks := by rw [each]; simp

/-- Settles O22: TICK's checks and the two ways past them, QTICK's ticks one after the other, and a tick among others. -/
theorem tickAndQtickEvaluate : Obligations.TickAndQtickEvaluate := by
  refine ⟨?_, ?_, fun x n kind v => evaluateTick_eq_after x n kind v⟩
  · intro s a b c kindByte v3 v2 v1 v0 reply ready m n checks
    have hcode : u24 m.params 0 = n := u24_eq_number24 a b c _
    refine ⟨fun r hr => exec_refused ready rfl (tickBody_of_refusal (by rw [hcode]; exact hr) _), fun hnone kind hkind => ?_⟩
    have passed := (firstRefusal_eq_none_iff checks).1 hnone
    simp only [checks, List.forall_mem_cons, decide_eq_false_iff_not, not_or, not_lt] at passed
    obtain ⟨⟨hzero, hhi⟩, _, hderived, _⟩ := passed
    have run {o : TickOutcome} {acc : TickAcc} := exec_tick (o := o) (acc := acc) ready (Nat.pos_of_ne_zero hzero) hhi hkind
      (hkind ▸ hderived)
    refine ⟨run rfl, fun hmirrors hothers => ?_⟩
    have idle : ¬ (kind = .last ∧ (s.taken reply).hasDerived n = true) := by
      rintro ⟨hlast, derived⟩
      exact (State.hasDerived_iff _ n).1 derived (hothers.resolve_left (not_not.2 hlast))
    have hevaluate := evaluateTick_of_no_lead (s := s.taken reply) (clampTick_signed32 kind v3 v2 v1 v0) hmirrors
    rw [if_neg idle] at hevaluate
    have hexec := run hevaluate
    rw [State.joinGroup_nil] at hexec
    exact hexec
  · intro s m reply ready hlength hcount p n checks
    have accepted : Command.qtick.lengthOk m.params = true := (Command.lengthOk_iff _ _).2 ⟨hlength, fun _ => hcount⟩
    refine ⟨fun r hr => exec_refused ready accepted ?_, fun hnone ticks hticks heach => ?_⟩
    · refine (qtickBody_eq m _).trans ?_
      rw [show firstRefusal (qtickChecks m.params) = some r from hr]
    · have hbody := qtickBody_eq m (s.taken reply)
      rw [show firstRefusal (qtickChecks m.params) = none from hnone, qtickValues_eq hticks heach] at hbody
      have hexec := exec_done ready accepted hbody
        ((State.joinGroup_lki _ _).trans (evaluateTicks_recordsOnly n ticks ⟨s.taken reply, [], 0⟩ []).lki)
      rw [evaluateTicks_eq_foldl] at hexec
      exact hexec

end Sys2Proof.Machine
end

section
/-!
PROOFS, the Formatter (chapter 5): how digits spell a number (R95 to R97), the candidate forms in their order (R98 to R100, R104 to
R106) and the string that fills the span (R93, R94, R101 to R103, R107).
-/

namespace Sys2Proof.Machine

/-! ## Digits (R97) -/

@[simp] theorem digitByte_toNat (n : Nat) : (digitByte n).toNat = 48 + n % 10 := by
  simp only [digitByte, BitVec.toNat_ofNat]
  omega

/-- What every byte of a number's spelling is (R97). -/
def IsDigit (d : Byte) : Prop := 0x30 ≤ d.toNat ∧ d.toNat ≤ 0x39

theorem isDigit_digitByte (n : Nat) : IsDigit (digitByte n) := by
  rw [IsDigit, digitByte_toNat]
  omega

theorem digitByte_ne_zero {n : Nat} (hn : n % 10 ≠ 0) : digitByte n ≠ 0x30 := fun h => by
  have hnat : 48 + n % 10 = 48 := (digitByte_toNat n).symm.trans (congrArg BitVec.toNat h)
  omega

/-- One more digit at the end shifts a number by one place. -/
theorem spelled_append_digitByte (digits : List Byte) (n : Nat) :
    spelled (digits ++ [digitByte n]) = 10 * spelled digits + n % 10 := by
  simp [spelled]

theorem spelled_digitByte {n : Nat} (hn : n < 10) : spelled [digitByte n] = n :=
  (spelled_append_digitByte [] n).trans (by simp [spelled, Nat.mod_eq_of_lt hn])

/-- What holds of a single digit, and goes on holding when one more digit is put at the end, holds of every number of at most
`fuel` + 1 digits and its digits. -/
theorem digitsUpTo_induction {P : Nat → List Byte → Prop} (single : ∀ n, n < 10 → P n [digitByte n])
    (onward : ∀ n digits, 10 ≤ n → P (n / 10) digits → P n (digits ++ [digitByte n]))
    {fuel n : Nat} (hn : n < 10 ^ (fuel + 1)) : P n (digitsUpTo fuel n) := by
  induction fuel generalizing n with
  | zero => exact single n hn
  | succ fuel ih =>
    rw [digitsUpTo]
    split
    · next hlt => exact single n hlt
    · next hge =>
      refine onward n _ (Nat.not_lt.1 hge) (ih ?_)
      rw [Nat.pow_succ] at hn
      omega

/-- A number's digits spell it in full. -/
theorem spelled_digitsOf {n : Nat} (hn : n < 10 ^ 10) : spelled (digitsOf n) = n :=
  digitsUpTo_induction (P := fun n digits => spelled digits = n) (fun _ => spelled_digitByte)
    (fun n digits _ ih => by rw [spelled_append_digitByte, ih, Nat.div_add_mod]) hn

theorem isDigit_of_mem_digitsOf {n : Nat} (hn : n < 10 ^ 10) : ∀ d ∈ digitsOf n, IsDigit d :=
  digitsUpTo_induction (P := fun _ digits => ∀ d ∈ digits, IsDigit d)
    (fun n _ => List.forall_mem_singleton.2 (isDigit_digitByte n))
    (fun n _ _ ih => List.forall_mem_append.2 ⟨ih, List.forall_mem_singleton.2 (isDigit_digitByte n)⟩) hn

/-- The digits of a number other than 0 begin with one that is not 0. -/
theorem digitsOf_head_ne_zero {n : Nat} (hn : n < 10 ^ 10) (hne : n ≠ 0) : (digitsOf n).head? ≠ some 0x30 := by
  obtain ⟨d, rest, hdigits, hd⟩ :=
    digitsUpTo_induction (P := fun n digits => n ≠ 0 → ∃ d rest, digits = d :: rest ∧ d ≠ 0x30)
      (fun n hlt hne => ⟨digitByte n, [], rfl, digitByte_ne_zero (by omega)⟩)
      (fun n digits hge ih _ => by
        obtain ⟨d, rest, rfl, hd⟩ := ih (by omega)
        exact ⟨d, rest ++ [digitByte n], rfl, hd⟩) (fuel := 9) hn hne
  rw [digitsOf, hdigits]
  exact fun h => hd (Option.some.inj h)

@[simp] theorem fixedDigits_length (d n : Nat) : (fixedDigits d n).length = d := by
  induction d generalizing n with
  | zero => rfl
  | succ d ih => simp [fixedDigits, ih]

theorem isDigit_of_mem_fixedDigits (d n : Nat) : ∀ c ∈ fixedDigits d n, IsDigit c := by
  induction d generalizing n with
  | zero => exact List.forall_mem_nil _
  | succ d ih => exact List.forall_mem_append.2 ⟨ih _, List.forall_mem_singleton.2 (isDigit_digitByte n)⟩

/-- A fixed field of `d` digits shows a number's last `d` digits. -/
theorem spelled_fixedDigits (d n : Nat) : spelled (fixedDigits d n) = n % 10 ^ d := by
  induction d generalizing n with
  | zero => simp [fixedDigits, spelled, Nat.mod_one]
  | succ d ih =>
    rw [fixedDigits, spelled_append_digitByte, ih, Nat.pow_succ', Nat.mod_mul, Nat.add_comm]

/-! ## Rounding and the sign (R95, R96) -/

theorem reduce_eq (m f : Nat) : reduce m f = m / f + (if f ≤ 2 * (m - m / f * f) then 1 else 0) := by
  rw [reduce, Nat.mod_eq_sub_div_mul]
  split <;> rfl

/-- With factor 1 nothing is rounded. -/
theorem reduce_one (m : Nat) : reduce m 1 = m := by
  simp [reduce, Nat.mod_one]

theorem signOf_eq (v : Int) (r : Nat) (always : Bool) :
    signOf v r always = if r = 0 then [] else if v < 0 then [0x2D] else if 0 < v ∧ always then [0x2B] else [] := by
  simp only [signOf, Bool.and_eq_true, decide_eq_true_eq, and_comm]

/-! ## The degrade order (R104 to R106) -/

/-- The precisions of a degrading form fall by one place at each step, down to 0. -/
theorem getElem?_precisions (q i : Nat) : (precisions q)[i]? = if i ≤ q then some (q - i) else none := by
  induction q generalizing i with
  | zero => cases i <;> rfl
  | succ q ih =>
    cases i with
    | zero => rfl
    | succ i => simp [precisions, ih, Nat.add_sub_add_right]

/-- The precisions of a form: with degrade OFF its display precision alone. -/
theorem getElem?_precisions_of_degrade (degrade : Bool) (q i : Nat) :
    (if degrade then precisions q else [q])[i]? = if i ≤ (if degrade then q else 0) then some (q - i) else none := by
  cases degrade with
  | true => exact getElem?_precisions q i
  | false => cases i <;> rfl

/-- DEC and FRAC: the candidate at place `i` is the form at `i` places fewer (R104, R105). -/
theorem getElem?_map_precisions (form : Nat → Form) (degrade : Bool) (q i : Nat) :
    ((if degrade then precisions q else [q]).map form)[i]? =
      if i ≤ (if degrade then q else 0) then some (form (q - i)) else none := by
  rw [List.getElem?_map, getElem?_precisions_of_degrade, apply_ite (Option.map form)]
  rfl

theorem candidates_dec {v : Int} {f : Format} (hmode : f.mode = .dec) : candidates v f =
    (if f.degrade then precisions f.display else [f.display]).map (fun q => decForm v f.source q f.signAlways) := by
  simp only [candidates, hmode]

theorem candidates_frac {v : Int} {f : Format} (hmode : f.mode = .frac) : candidates v f =
    (if f.degrade then precisions f.display else [f.display]).map (fun j => fracForm v f.source j f.signAlways) := by
  simp only [candidates, hmode]

theorem candidates_count {v : Int} {f : Format} (hmode : f.mode = .count) : candidates v f =
    countForm v 1 [] f.signAlways ::
      (if f.degrade then
        [countForm v 1000 [0x4B] f.signAlways, countForm v 1000000 [0x4D] f.signAlways,
         countForm v 1000000000 [0x42] f.signAlways]
      else []) := by
  simp only [candidates, hmode]

/-- Settles O50: how numbers are rounded and spelled, and the candidates of each mode place by place. -/
theorem candidateFormsShowValue : Obligations.CandidateFormsShowValue := by
  refine ⟨fun m f _ => ⟨reduce_eq m f, reduce_one m⟩,
    fun n hn => ⟨spelled_digitsOf hn, isDigit_of_mem_digitsOf hn, digitsOf_head_ne_zero hn, fun hzero => hzero ▸ rfl⟩,
    fun d n => ⟨fixedDigits_length d n, spelled_fixedDigits d n, isDigit_of_mem_fixedDigits d n⟩, signOf_eq, ?_, ?_, ?_⟩
  · intro v f hmode i
    rw [candidates_dec hmode]
    exact getElem?_map_precisions ..
  · intro v f hmode i
    rw [candidates_frac hmode]
    exact getElem?_map_precisions ..
  · exact fun v f hmode => candidates_count hmode

/-! ## Filling the span (R93, R101 to R103, R107) -/

/-- A form that fits fills its span exactly, whichever the fill (R102, R103). -/
theorem Form.fill_length {c : Form} {w : Nat} (hfits : c.size ≤ w) (zero : Bool) : (c.fill zero w).length = w := by
  have hsize : w - c.size + (c.sign.length + c.whole.length + c.tail.length) = w := Nat.sub_add_cancel hfits
  cases zero with
  | true =>
    simp only [Form.fill, if_true, List.length_append, List.length_replicate]
    omega
  | false =>
    simp only [Form.fill, Bool.false_eq_true, if_false, List.length_append, List.length_replicate]
    omega

/-- The first candidate that fits is the one shown (R101). -/
theorem formatValue_of_fits {v : Int} {f : Format} {w : Nat} {before after : List Form} {c : Form}
    (hcandidates : candidates v f = before ++ c :: after) (hbefore : ∀ d ∈ before, w < d.size) (hfits : c.size ≤ w) :
    formatValue (some v) f w = (c.fill f.fillZero w, false) := by
  have hfind : (candidates v f).find? (fun d => d.size ≤ w) = some c :=
    List.find?_eq_some_iff_append.2 ⟨decide_eq_true hfits, before, after, hcandidates, fun d hd => by simpa using hbefore d hd⟩
  simp only [formatValue, hfind]

/-- With no candidate that fits the overflow is shown (R107). -/
theorem formatValue_of_overflow {v : Int} {f : Format} {w : Nat} (hall : ∀ d ∈ candidates v f, w < d.size) :
    formatValue (some v) f w = (List.replicate w 0x23, true) := by
  have hfind : (candidates v f).find? (fun d => d.size ≤ w) = none :=
    List.find?_eq_none.2 fun d hd => by simpa using hall d hd
  simp only [formatValue, hfind]

/-- A value either has a first candidate that fits or overflows. -/
theorem fits_or_overflow (v : Int) (f : Format) (w : Nat) :
    (∃ before c after, candidates v f = before ++ c :: after ∧ (∀ d ∈ before, w < d.size) ∧ c.size ≤ w)
    ∨ ∀ d ∈ candidates v f, w < d.size := by
  cases hfind : (candidates v f).find? (fun d => d.size ≤ w) with
  | some c =>
    obtain ⟨hfits, before, after, hcandidates, hbefore⟩ := List.find?_eq_some_iff_append.1 hfind
    exact .inl ⟨before, c, after, hcandidates, fun d hd => by simpa using hbefore d hd, of_decide_eq_true hfits⟩
  | none => exact .inr fun d hd => by simpa using List.find?_eq_none.1 hfind d hd

/-- The string has one character for each position of the span (R93). -/
theorem formatValue_length (value : Option Int) (f : Format) (w : Nat) : (formatValue value f w).1.length = w := by
  cases value with
  | none => exact List.length_replicate
  | some v =>
    rcases fits_or_overflow v f w with ⟨before, c, after, hcandidates, hbefore, hfits⟩ | hall
    · rw [formatValue_of_fits hcandidates hbefore hfits]
      exact Form.fill_length hfits _
    · rw [formatValue_of_overflow hall]
      exact List.length_replicate

/-- Settles O49: the first candidate that fits, the overflow when there is none, and the length of every string. -/
theorem formattedStringFillsSpan : Obligations.FormattedStringFillsSpan := fun f w =>
  ⟨rfl, fun _ _ _ _ hcandidates hbefore hfits => formatValue_of_fits hcandidates hbefore hfits,
    fun _ hall => formatValue_of_overflow hall, fun value => formatValue_length value f w⟩

end Sys2Proof.Machine
end

section
/-!
PROOFS, opening, freezing and thawing a panel (R113, R114, R116, R118): the checks in order, and what the records deferred or resumed
one after the other leave.
-/

namespace Sys2Proof.Machine

/-! ## Bodies that are checks and then a verdict -/

/-- The refusal of the first check that fails, else the verdict (R13). -/
def Verdict.afterChecks (checks : List (Bool × Result)) (v : Verdict) : Verdict :=
  ((firstRefusal checks).map Verdict.refuse).getD v

theorem Verdict.afterChecks_nil (v : Verdict) : v.afterChecks [] = v := rfl

theorem Verdict.afterChecks_cons (fails : Bool) (r : Result) (checks : List (Bool × Result)) (v : Verdict) :
    v.afterChecks ((fails, r) :: checks) = if fails then .refuse r else v.afterChecks checks := by
  cases fails <;> rfl

section
variable {s u : State} {c : Command} {m : Message} {reply : Bool} (ready : s.Ready c m reply) (hlength : c.lengthOk m.params = true)
  {checks : List (Bool × Result)}
include ready hlength

theorem exec_refused_by_check {v : Verdict} {r : Result} (hbody : c.body m (s.taken reply) = v.afterChecks checks)
    (hr : firstRefusal checks = some r) : exec c.instr s = .next (s.answered m reply r []) :=
  exec_refused ready hlength (by rw [hbody, Verdict.afterChecks, hr]; rfl)

theorem exec_done_after_checks {data : List Byte} (hbody : c.body m (s.taken reply) = (Verdict.done u data).afterChecks checks)
    (hnone : firstRefusal checks = none) (hlki : u.lki = (s.taken reply).lki) :
    exec c.instr s = .next (u.answered m reply .ok data) :=
  exec_done ready hlength (by rw [hbody, Verdict.afterChecks, hnone]; rfl) hlki

/-- A command whose execution ends at a later event, or has ended it itself (R14). -/
theorem exec_goesOn_after_checks (hbody : c.body m (s.taken reply) = (Verdict.goesOn u).afterChecks checks)
    (hnone : firstRefusal checks = none) : exec c.instr s = .next u := by
  rw [exec_instr, runCommand_ready ready, if_pos hlength, hbody, Verdict.afterChecks, hnone]
  rfl

end

/-! ## PANEL_OPEN (R113, R114) -/

theorem Bank.ofNumber_eq (n : Nat) : Bank.ofNumber n = if 1 < n then none else some (if n = 0 then .a else .b) := by
  match n with
  | 0 | 1 => rfl
  | n + 2 => rw [if_pos (by omega)]; rfl

/-- The checks of PANEL_OPEN in the order of R113. -/
def panelOpenChecks (s : State) (p : List Byte) : List (Bool × Result) :=
  [(31 < u8 p 0, .badArg), (3 < u8 p 1, .badArg), (u8 p 4 = 0 ∨ 50 < u8 p 4, .badArg), (u8 p 5 = 0 ∨ 132 < u8 p 5, .badArg),
   (1 < u8 p 6, .badArg), (50 < u8 p 2 + u8 p 4 ∨ 132 < u8 p 3 + u8 p 5, .outside), ((s.panel (u8 p 0)).isSome, .inUse)]

/-- The entry of the panel that PANEL_OPEN opens (R114). -/
def openedPanel (p : List Byte) : Panel :=
  { frozen := false, page := u8 p 1, row := u8 p 2, col := u8 p 3, height := u8 p 4, width := u8 p 5
    bank := if u8 p 6 = 0 then .a else .b }

theorem panelOpenBody_eq (m : Message) (s : State) : panelOpenBody m s =
    (Verdict.done (s.setPanel (u8 m.params 0) (some (openedPanel m.params))) []).afterChecks (panelOpenChecks s m.params) := by
  simp only [panelOpenBody, panelOpenChecks, Verdict.afterChecks_cons, Verdict.afterChecks_nil, decide_eq_true_eq,
    Nat.lt_one_iff, Bank.ofNumber_eq]
  by_cases hbank : 1 < u8 m.params 6
  · simp only [if_pos hbank]
  · simp only [if_neg hbank]
    rfl

/-- Settles O32: the checks in their order, then the entry set. -/
theorem panelOpenSetsRectangle : Obligations.PanelOpenSetsRectangle := by
  intro s p page row col height width bankByte reply ready m checks
  have body := panelOpenBody_eq m (s.taken reply)
  have bank : openedPanel m.params = { frozen := false, page := page.toNat, row := row.toNat, col := col.toNat
                                       height := height.toNat, width := width.toNat, bank := if bankByte = 0 then .a else .b } :=
    congrArg (Panel.mk _ _ _ _ _ _) (if_congr (BitVec.toNat_eq (y := 0)).symm rfl rfl)
  refine ⟨fun r hr => exec_refused_by_check (c := .panelOpen) ready rfl body hr, fun hnone => ⟨_,
    exec_done_after_checks (c := .panelOpen) ready rfl body hnone rfl, fun q => ?_, rfl⟩⟩
  rw [State.panel_setPanel, bank]
  rfl

/-! ## PANEL_FREEZE and PANEL_THAW (R116, R118) -/

/-- A body that names one panel: a bad number and a CLOSED panel are refused, else the panel's entry decides. -/
def Verdict.onPanel (s : State) (p : Nat) (f : Panel → State) : Verdict :=
  if 31 < p then .refuse .badArg
  else
    match s.panel p with
    | none => .refuse .noPanel
    | some e => .done (f e) []

theorem panelFreezeBody_eq (m : Message) (s : State) :
    panelFreezeBody m s = .onPanel s (u8 m.params 0) fun e => panelFreeze (u8 m.params 0) e s := rfl

theorem panelThawBody_eq (m : Message) (s : State) :
    panelThawBody m s = .onPanel s (u8 m.params 0) fun e => panelThaw (u8 m.params 0) e s := rfl

theorem exec_onPanel {s : State} {c : Command} {m : Message} {reply : Bool} (ready : s.Ready c m reply)
    (hlength : c.lengthOk m.params = true) {p : Nat} {f : Panel → State}
    (hbody : c.body m (s.taken reply) = .onPanel (s.taken reply) p f) (hlki : ∀ e, (f e).lki = (s.taken reply).lki) :
    (31 < p → exec c.instr s = .next (s.answered m reply .badArg []))
    ∧ (p ≤ 31 → s.panel p = none → exec c.instr s = .next (s.answered m reply .noPanel []))
    ∧ ∀ e, p ≤ 31 → s.panel p = some e → exec c.instr s = .next ((f e).answered m reply .ok []) := by
  have entry : (s.taken reply).panel p = s.panel p := rfl
  refine ⟨fun hp => exec_refused ready hlength ?_, fun hp hnone => exec_refused ready hlength ?_,
    fun e hp he => exec_done ready hlength ?_ (hlki e)⟩
  · rw [hbody, Verdict.onPanel, if_pos hp]
  · rw [hbody, Verdict.onPanel, if_neg (Nat.not_lt.2 hp), entry, hnone]
  · rw [hbody, Verdict.onPanel, if_neg (Nat.not_lt.2 hp), entry, he]

theorem panelFreeze_of_frozen {e : Panel} (hfrozen : e.frozen = true) (p : Nat) (s : State) : panelFreeze p e s = s :=
  if_pos hfrozen

theorem panelThaw_of_open {e : Panel} (hopen : e.frozen = false) (p : Nat) (s : State) : panelThaw p e s = s :=
  if_neg (by rw [hopen]; nofun)

/-- Records deferred one after the other (R116). -/
theorem State.foldl_defer (l : List Nat) (s : State) :
    (∀ j, (l.foldl State.defer s).slot j = if j ∈ l then { s.slot j with queued := false, due := true } else s.slot j)
    ∧ l.foldl State.defer s = { s with
        ftb := { s.ftb with slots := (l.foldl State.defer s).ftb.slots }
        ptr := { s.ptr with queue := s.ptr.queue.filter (· ∉ l) } } := by
  induction l generalizing s with
  | nil => simp
  | cons k rest ih =>
    obtain ⟨hslot, hframe⟩ := ih (s.defer k)
    have first (j : Nat) : (s.defer k).slot j = if j = k then { s.slot k with queued := false, due := true } else s.slot j :=
      s.slot_updSlot k (fun r => { r with queued := false, due := true }) j
    refine ⟨fun j => ?_, ?_⟩
    · rw [List.foldl_cons, hslot, first]
      by_cases hj : j ∈ rest <;> by_cases hjk : j = k <;> simp [hj, hjk]
    · have queue : (s.defer k).ptr.queue.filter (· ∉ rest) = s.ptr.queue.filter (· ∉ k :: rest) := by
        rw [show (s.defer k).ptr.queue = s.ptr.queue.filter (· != k) from rfl, List.filter_filter]
        refine List.filter_congr fun j _ => ?_
        by_cases hjk : j = k <;> simp [hjk]
      rw [queue] at hframe
      exact hframe

/-- Records resumed one after the other (R118). -/
theorem State.foldl_resume (l : List Nat) (s : State) :
    (∀ j, (l.foldl State.resume s).slot j = if j ∈ l then { s.slot j with queued := true, due := false } else s.slot j)
    ∧ l.foldl State.resume s = { s with
        ftb := { s.ftb with slots := (l.foldl State.resume s).ftb.slots }
        ptr := { s.ptr with queue := s.ptr.queue ++ l } } := by
  induction l generalizing s with
  | nil => simp
  | cons k rest ih =>
    obtain ⟨hslot, hframe⟩ := ih (s.resume k)
    have first (j : Nat) : (s.resume k).slot j = if j = k then { s.slot k with queued := true, due := false } else s.slot j := by
      rw [State.resume, State.slot_enqueue, State.slot_updSlot, State.slot_updSlot, if_pos rfl]
      by_cases hjk : j = k <;> simp [hjk]
    refine ⟨fun j => ?_, ?_⟩
    · rw [List.foldl_cons, hslot, first]
      by_cases hj : j ∈ rest <;> by_cases hjk : j = k <;> simp [hj, hjk]
    · have queue : (s.resume k).ptr.queue ++ rest = s.ptr.queue ++ k :: rest := List.append_cons .. |>.symm
      rw [queue] at hframe
      exact hframe

/-- A record that a freeze of panel `p` defers: LIVE, of the panel, and queued (R116). -/
def State.defers (s : State) (p k : Nat) : Bool := k < 1024 && s.isLive k && (s.slot k).panel == p && (s.slot k).queued

/-- A record that a thaw of panel `p` resumes: LIVE, of the panel, and due (R118). -/
def State.resumes (s : State) (p k : Nat) : Bool := s.isLive k && (s.slot k).panel == p && (s.slot k).due

theorem State.mem_deferred {s : State} {p k : Nat} :
    k ∈ (s.panelRecords p).filter (fun k => (s.slot k).queued) ↔ s.defers p k = true := by
  simp only [State.panelRecords, State.defers, List.mem_filter, allSlots, List.mem_range, Bool.and_eq_true, decide_eq_true_eq,
    and_assoc]

theorem State.resumed_eq (s : State) (p : Nat) :
    (s.panelRecords p).filter (fun k => (s.slot k).due) = allSlots.filter (s.resumes p) := by
  rw [State.panelRecords, List.filter_filter]
  exact List.filter_congr fun k _ => Bool.and_comm ..

/-- What freezing an OPEN panel leaves (R116). -/
theorem panelFreeze_spec (s : State) (p : Nat) {e : Panel} (hopen : e.frozen = false) :
    let t := panelFreeze p e s
    (∀ q, t.panel q = if q = p then some { e with frozen := true } else s.panel q)
    ∧ (∀ k, t.slot k = if s.defers p k then { s.slot k with queued := false, due := true } else s.slot k)
    ∧ t = { s with
        panels := t.panels, ftb := { s.ftb with slots := t.ftb.slots }
        ptr := { s.ptr with queue := s.ptr.queue.filter (fun k => !s.defers p k) } } := by
  intro t
  have ht : t = ((s.panelRecords p).filter (fun k => (s.slot k).queued)).foldl State.defer
      (s.setPanel p (some { e with frozen := true })) := if_neg (by rw [hopen]; nofun)
  obtain ⟨hslot, hframe⟩ := State.foldl_defer ((s.panelRecords p).filter (fun k => (s.slot k).queued))
    (s.setPanel p (some { e with frozen := true }))
  rw [← ht] at hslot hframe
  clear_value t
  have panels : t.panels = (s.setPanel p (some { e with frozen := true })).panels := by rw [hframe]
  have queue : s.ptr.queue.filter (· ∉ (s.panelRecords p).filter (fun k => (s.slot k).queued))
      = s.ptr.queue.filter (fun k => !s.defers p k) :=
    List.filter_congr fun k _ => by simp only [State.mem_deferred, Bool.decide_eq_true, decide_not]
  refine ⟨fun q => ?_, fun k => ?_, ?_⟩
  · rw [State.panel_of_panels panels, State.panel_setPanel]
  · simp only [hslot, State.mem_deferred]
    rfl
  · rw [State.setPanel_ptr, queue] at hframe
    rw [panels]
    exact hframe

/-- What thawing a FROZEN panel leaves (R118). -/
theorem panelThaw_spec (s : State) (p : Nat) {e : Panel} (hfrozen : e.frozen = true) :
    let t := panelThaw p e s
    (∀ q, t.panel q = if q = p then some { e with frozen := false } else s.panel q)
    ∧ (∀ k, t.slot k = if k < 1024 && s.resumes p k then { s.slot k with queued := true, due := false } else s.slot k)
    ∧ t = { s with
        panels := t.panels, ftb := { s.ftb with slots := t.ftb.slots }
        ptr := { s.ptr with queue := s.ptr.queue ++ allSlots.filter (s.resumes p) } } := by
  intro t
  have ht : t = (allSlots.filter (s.resumes p)).foldl State.resume (s.setPanel p (some { e with frozen := false })) := by
    rw [← State.resumed_eq]
    exact if_pos hfrozen
  obtain ⟨hslot, hframe⟩ := State.foldl_resume (allSlots.filter (s.resumes p)) (s.setPanel p (some { e with frozen := false }))
  rw [← ht] at hslot hframe
  clear_value t
  have panels : t.panels = (s.setPanel p (some { e with frozen := false })).panels := by rw [hframe]
  refine ⟨fun q => ?_, fun k => ?_, ?_⟩
  · rw [State.panel_of_panels panels, State.panel_setPanel]
  · simp only [hslot, List.mem_filter, allSlots, List.mem_range, Bool.and_eq_true, decide_eq_true_eq]
    rfl
  · rw [panels]
    exact hframe

/-- Settles O34: the panel's entry decides, then what a freeze or a thaw leaves. -/
theorem freezeDefersAndThawResumes : Obligations.FreezeDefersAndThawResumes := by
  constructor
  · intro s p reply ready m waiting
    obtain ⟨bad, closed, accepted⟩ := exec_onPanel (c := .panelFreeze) ready rfl (panelFreezeBody_eq m _)
      fun e => panelFreeze_lki _ _ e
    refine ⟨bad, closed, fun e hp he => ⟨fun hfrozen => ?_, fun hopen => ⟨_, accepted e hp he, panelFreeze_spec _ _ hopen⟩⟩⟩
    have frozen := accepted e hp he
    rw [panelFreeze_of_frozen hfrozen] at frozen
    exact frozen
  · intro s p reply ready m deferred
    obtain ⟨bad, closed, accepted⟩ := exec_onPanel (c := .panelThaw) ready rfl (panelThawBody_eq m _)
      fun e => panelThaw_lki _ _ e
    refine ⟨bad, closed, fun e hp he => ⟨fun hopen => ?_, fun hfrozen => ⟨_, accepted e hp he, panelThaw_spec _ _ hfrozen⟩⟩⟩
    have thawed := accepted e hp he
    rw [panelThaw_of_open hopen] at thawed
    exact thawed

end Sys2Proof.Machine
end

section
/-!
PROOFS, PANEL_MOVE (R119, R120, R128) and the grants of MDC's writes (R121, R155, R156, R174 to R176): the checks, the treatment of the
records one after the other, and what a granted write leaves.
-/

namespace Sys2Proof.Machine

/-! ## PANEL_MOVE (R119, R120) -/

/-- The checks of PANEL_MOVE in the order of R119. -/
def panelMoveChecks (s : State) (q : List Byte) : List (Bool × Result) :=
  [(31 < u8 q 0, .badArg), (3 < u8 q 1, .badArg), ((s.panel (u8 q 0)).isNone, .noPanel),
   ((s.panel (u8 q 0)).any (fun e => !e.frozen), .notFrozen),
   ((s.panel (u8 q 0)).any (fun e => 50 < u8 q 2 + e.height ∨ 132 < u8 q 3 + e.width), .outside),
   ((s.panelRecords (u8 q 0)).any (fun k => ((s.slot k).spanAt (u8 q 1) (u8 q 2) (u8 q 3)).any (s.claimedElsewhere (u8 q 0))),
    .collide)]

theorem State.claimedElsewhere_eq (s : State) (p : Nat) :
    s.claimedElsewhere p = fun c => (s.claim c).any (fun j => s.isLive j && (s.slot j).panel != p) := by
  funext c
  unfold State.claimedElsewhere
  cases s.claim c <;> rfl

/-- PANEL_MOVE of a panel that is CLOSED fails one of its first three checks. -/
theorem panelMoveBody_closed {m : Message} {s : State} (hnone : s.panel (u8 m.params 0) = none) (v : Verdict) :
    panelMoveBody m s = v.afterChecks (panelMoveChecks s m.params) := by
  simp only [panelMoveBody, panelMoveChecks, Verdict.afterChecks_cons, decide_eq_true_eq, hnone, Option.isNone_none, if_true]

theorem panelMoveBody_of_some {m : Message} {s : State} {e : Panel} (he : s.panel (u8 m.params 0) = some e) : panelMoveBody m s =
    (Verdict.goesOn (panelMove m (u8 m.params 0) e (u8 m.params 1) (u8 m.params 2) (u8 m.params 3) s)).afterChecks
      (panelMoveChecks s m.params) := by
  simp only [panelMoveBody, panelMoveChecks, Verdict.afterChecks_cons, Verdict.afterChecks_nil, decide_eq_true_eq, he,
    Option.isNone_some, Option.any_some, Bool.false_eq_true, if_false]

/-- The record treated next waits for its vacating writes, or is re-anchored and the next one treated (R120). -/
theorem moveNext_cons (m : Message) (p cleared k : Nat) (rest : List Nat) (s : State) : moveNext m p cleared (k :: rest) s =
    if s.vacatingWrites k cleared = [] then moveNext m p cleared rest (s.reclaim k)
    else { s with mdc := .moving m p cleared k (s.vacatingWrites k cleared) rest } := by
  rw [moveNext]
  split
  · next hnone => rw [if_pos hnone]
  · next hsome => rw [if_neg hsome]

/-- What re-anchoring a record, claiming its new span and making it due leaves (R120 steps 2 to 4). -/
theorem State.reclaim_spec {s : State} {k : Nat} {e : Panel} (he : s.panel (s.slot k).panel = some e) :
    let r := s.slot k
    let x : Record := { r with page := e.page, row := e.row + r.rowOffset, col := e.col + r.colOffset }
    let held : Bool := s.isLive k && s.isFrozen r.panel
    (∀ j, (s.reclaim k).slot j =
      if j = k then { x with queued := r.queued || !held, due := r.due || (!r.queued && held) } else s.slot j)
    ∧ (∀ c, (s.reclaim k).claim c = if c ∈ x.span then some k else s.claim c)
    ∧ s.reclaim k = { s with
        ftb := { s.ftb with slots := (s.reclaim k).ftb.slots, claims := (s.reclaim k).ftb.claims }
        ptr := { s.ptr with queue := if r.queued || held then s.ptr.queue else s.ptr.queue ++ [k] } } := by
  intro r x held
  have slot (j : Nat) : (s.reanchored k e).slot j = if j = k then x else s.slot j := State.reanchored_slot j
  have frame : s.reanchored k e = { s with
      ftb := { s.ftb with slots := (s.reanchored k e).ftb.slots, claims := (s.reanchored k e).ftb.claims } } := by
    rw [State.reanchored, (State.claimAll_spec _ _ _).2]
    rfl
  have hheld : ((s.reanchored k e).isLive k && (s.reanchored k e).isFrozen x.panel) = held := by
    rw [State.isLive, slot, if_pos rfl, State.isFrozen, State.panel_of_panels State.reanchored_frame.1]
    rfl
  have due := (s.reanchored k e).becomeDue_spec k
  simp only [slot, if_true, hheld] at due
  obtain ⟨due, rest⟩ := due
  rw [State.reclaim_eq he]
  refine ⟨fun j => ?_, fun c => ?_, ?_⟩
  · rw [due]
    split <;> rfl
  · rw [rest]
    exact State.reanchored_claim c
  · have hptr : (s.reanchored k e).ptr = s.ptr := State.reanchored_frame.2.1
    rw [hptr] at rest
    generalize (s.reanchored k e).becomeDue k = t at rest ⊢
    rw [rest, frame]

/-- Settles O35: the checks in their order, the records one after the other, and each record's re-anchoring. -/
theorem panelMoveVacatesAndClaims : Obligations.PanelMoveVacatesAndClaims := by
  refine ⟨?_, fun _ _ _ _ => rfl, ?_, ?_⟩
  · intro s p page row col reply ready m records newSpan checks
    have hchecks : panelMoveChecks (s.taken reply) m.params = checks := by
      rw [panelMoveChecks, State.claimedElsewhere_eq]
      rfl
    cases he : s.panel p.toNat with
    | none =>
      have body (v : Verdict) := panelMoveBody_closed (m := m) (s := s.taken reply) he v
      rw [hchecks] at body
      refine ⟨fun r hr => exec_refused_by_check (c := .panelMove) ready rfl (body (.goesOn s)) hr, fun hnone => ?_⟩
      have := (firstRefusal_eq_none_iff _).1 hnone ((s.panel p.toNat).isNone, .noPanel) (by simp [checks])
      simp [he] at this
    | some e =>
      have body := panelMoveBody_of_some (m := m) (s := s.taken reply) he
      rw [hchecks] at body
      exact ⟨fun r hr => exec_refused_by_check (c := .panelMove) ready rfl body hr, fun hnone => ⟨e, rfl,
        exec_goesOn_after_checks (c := .panelMove) ready rfl body hnone⟩⟩
  · intro m p cleared k rest u r held
    have writes : u.vacatingWrites k cleared = held.map (fun c => { cell := c, char := 0x20, attr := cleared }) := rfl
    rw [moveNext_cons, writes]
    simp only [List.map_eq_nil_iff]
  · intro u k e he r t x held
    obtain ⟨slot, claim, frame⟩ := State.reclaim_spec he
    exact ⟨(slot k).trans (if_pos rfl), fun j hj => (slot j).trans (if_neg hj), claim, frame⟩

/-! ## The grants of MDC's writes (R121, R156, R176) -/

theorem State.grantsMdc_iff {s : State} (hreset : s.resetLow = false) :
    s.grantsMdc = true ↔ s.ptrPending = none ∨ s.cst.mark = .ptr := by
  simp [State.grantsMdc, hreset]

/-- The Painter's write goes first when it has one pending and the mark names MDC (R156). -/
theorem State.grantsMdc_of_waits {s : State} (hpending : s.ptrPending ≠ none) (hmark : s.cst.mark = .mdc) :
    s.grantsMdc = false := by
  simp [State.grantsMdc, Option.isNone_eq_false_iff.2 (Option.isSome_iff_ne_none.2 hpending), hmark]

theorem State.released_cell (s : State) (k : Nat) (w : CellWrite) (q : Requester) (c : Nat) :
    (s.released k w q).cell c = if c = w.cell ∧ s.claim c = some k then { char := w.char, attr := w.attr } else s.cell c := by
  unfold State.released State.clearWrite
  split
  · next hk =>
    refine (s.cell_writeCell w c).trans (if_congr ⟨?_, And.left⟩ rfl rfl)
    rintro rfl
    exact ⟨rfl, hk⟩
  · next hk =>
    rw [if_neg (by rintro ⟨rfl, hc⟩; exact hk hc)]
    rfl

theorem State.released_writes (s : State) (k : Nat) (w : CellWrite) (q : Requester) : s.released k w q = { s with
    cst := { cells := (s.released k w q).cst.cells, mark := q }
    ftb := { s.ftb with claims := (s.released k w q).ftb.claims } } := by
  unfold State.released State.clearWrite
  split <;> rfl

theorem State.textWrite_cell (s : State) (w : CellWrite) (q : Requester) (c : Nat) :
    ((s.textWrite w).setMark q).cell c =
      if c = w.cell ∧ s.claim c = none then { char := w.char, attr := w.attr } else s.cell c := by
  unfold State.textWrite
  split
  · next hnone =>
    refine (s.cell_writeCell w c).trans (if_congr ⟨?_, And.left⟩ rfl rfl)
    rintro rfl
    exact ⟨rfl, hnone⟩
  · next hclaimed =>
    rw [if_neg (by rintro ⟨rfl, hc⟩; exact hclaimed hc)]
    rfl

theorem State.textWrite_writes (s : State) (w : CellWrite) (q : Requester) : (s.textWrite w).setMark q = { s with
    cst := { cells := ((s.textWrite w).setMark q).cst.cells, mark := q } } := by
  unfold State.textWrite
  split <;> rfl

theorem execVacateWriteGrant_eq {s : State} {m : Message} {p cleared k : Nat} {w : CellWrite} {ws : List CellWrite} {rest : List Nat}
    (hmdc : s.mdc = .moving m p cleared k (w :: ws) rest) : execVacateWriteGrant s = .next
      (if s.grantsMdc then
        (if ws = [] then moveNext m p cleared rest ((s.released k w .mdc).reclaim k)
         else { s.released k w .mdc with mdc := .moving m p cleared k ws rest })
       else s) := by
  simp only [execVacateWriteGrant, hmdc, State.vacate_eq, List.isEmpty_iff]
  split
  · split <;> rfl
  · rfl

theorem execTextWriteGrant_eq {s : State} {m : Message} {w : CellWrite} {ws : List CellWrite} (hmdc : s.mdc = .writing m (w :: ws)) :
    execTextWriteGrant s = .next
      (if s.grantsMdc then
        (if ws = [] then ((s.textWrite w).setMark .mdc).finished m
         else { (s.textWrite w).setMark .mdc with mdc := .writing m ws })
       else s) := by
  simp only [execTextWriteGrant, hmdc, List.isEmpty_iff]
  split
  · split <;> rfl
  · rfl

/-- Settles O36: the arbiter decides, then what a granted write leaves. -/
theorem mdcWriteGrants : Obligations.MdcWriteGrants := by
  constructor
  · intro s m p cleared k w ws rest hreset hmdc
    have grant := execVacateWriteGrant_eq hmdc
    refine ⟨fun hgrants => ⟨s.released k w .mdc, s.released_cell k w .mdc, State.released_claim, s.released_writes k w .mdc, ?_⟩,
      fun hpending hmark => ?_⟩
    · rw [if_pos ((State.grantsMdc_iff hreset).2 hgrants)] at grant
      exact grant
    · rw [State.grantsMdc_of_waits hpending hmark] at grant
      exact grant
  · intro s m w ws hreset hmdc
    have grant := execTextWriteGrant_eq hmdc
    refine ⟨fun hgrants => ⟨(s.textWrite w).setMark .mdc, s.textWrite_cell w .mdc, s.textWrite_writes w .mdc, ?_⟩,
      fun hpending hmark => ?_⟩
    · rw [if_pos ((State.grantsMdc_iff hreset).2 hgrants)] at grant
      exact grant
    · rw [State.grantsMdc_of_waits hpending hmark] at grant
      exact grant

end Sys2Proof.Machine
end

section
/-!
PROOFS, the field queue slot by slot (R117, R139, R142): what a sound queue says of one slot and of the Painter's job, and the
updates that leave all that it reads.
-/

namespace Sys2Proof.Machine

/-! ## One slot and the job in hand -/

/-- Whether a panel is FROZEN, unless it is CLOSED. -/
def State.house (s : State) (p : Nat) : Option Bool := (s.panel p).map Panel.frozen

theorem State.house_eq_some_iff {s : State} {p : Nat} {frozen : Bool} :
    s.house p = some frozen ↔ ∃ e, s.panel p = some e ∧ e.frozen = frozen := Option.map_eq_some_iff

theorem State.isFrozen_iff_house {s : State} {p : Nat} : s.isFrozen p = true ↔ s.house p = some true := by
  unfold State.isFrozen State.house
  cases s.panel p <;> simp

theorem State.house_of_panels {s t : State} (h : t.panels = s.panels) (p : Nat) : t.house p = s.house p := by
  rw [State.house, State.panel_of_panels h, State.house]

theorem State.house_setPanel (s : State) (p : Nat) (e : Option Panel) (q : Nat) :
    (s.setPanel p e).house q = if q = p then e.map Panel.frozen else s.house q := by
  rw [State.house, State.panel_setPanel]
  split <;> rfl

/-- The Painter has the clear job of slot `k` in hand. -/
def Painter.Clears (painter : Painter) (k : Nat) : Prop := ∃ ws, painter = .clearing k ws

theorem Painter.not_idle_clears (k : Nat) : ¬ Painter.idle.Clears k := nofun

theorem Painter.Clears.eq_slot {j k : Nat} {ws : List CellWrite} (h : (Painter.clearing k ws).Clears j) : j = k := by
  obtain ⟨vs, hjob⟩ := h
  exact (Painter.clearing.inj hjob).1.symm

/-- What a sound field queue says of slot `k` (R117, R139, R142). -/
structure State.SlotSound (s : State) (k : Nat) : Prop where
  flag : (s.slot k).queued = true ↔ k ∈ s.ptr.queue
  member : k ∈ s.ptr.queue →
    (s.slot k).state = .retiring ∨ (s.slot k).state = .live ∧ s.house (s.slot k).panel = some false
  due : (s.slot k).due = true → (s.slot k).state = .live ∧ s.house (s.slot k).panel = some true
  retiring : (s.slot k).state = .retiring → (s.slot k).queued = true ∨ s.ptr.painter.Clears k
  housed : (s.slot k).state = .live → s.house (s.slot k).panel ≠ none

/-- What a sound field queue says of the job in hand (R148, R151). -/
def State.JobSound (s : State) : Prop :=
  match s.ptr.painter with
  | .idle => True
  | .painting k _ _ str ws => (s.slot k).state ≠ .free ∧ ws ≠ [] ∧ str.length = (s.slot k).width
  | .clearing k ws => (s.slot k).state = .retiring ∧ (s.slot k).queued = false ∧ ws ≠ []

theorem State.queueSound_iff {s : State} :
    s.QueueSound ↔ s.ptr.queue.Nodup ∧ (∀ k, s.SlotSound k) ∧ s.JobSound := by
  constructor
  · refine fun h => ⟨h.nodup, fun k => ⟨h.flag k, fun hk => ?_, fun hdue => ?_, h.retiring k, fun hlive hnone => ?_⟩, ?_⟩
    · exact (h.members k hk).imp_right fun ⟨hlive, e⟩ => ⟨hlive, State.house_eq_some_iff.2 e⟩
    · obtain ⟨hlive, hfrozen⟩ := h.due k hdue
      exact ⟨(s.isLive_iff k).1 hlive, State.isFrozen_iff_house.1 hfrozen⟩
    · have := h.housed k ((s.isLive_iff k).2 hlive)
      rw [Option.map_eq_none_iff.1 hnone] at this
      cases this
    · unfold State.JobSound
      split
      · trivial
      · next hjob => exact h.painting _ _ _ _ _ hjob
      · next hjob => exact h.clearing _ _ hjob
  · rintro ⟨nodup, slots, job⟩
    exact {
      nodup := nodup
      flag := fun k => (slots k).flag
      members := fun k hk => ((slots k).member hk).imp_right fun ⟨hlive, hopen⟩ => ⟨hlive, State.house_eq_some_iff.1 hopen⟩
      due := fun k hdue => by
        obtain ⟨hlive, hfrozen⟩ := (slots k).due hdue
        exact ⟨(s.isLive_iff k).2 hlive, State.isFrozen_iff_house.2 hfrozen⟩
      retiring := fun k => (slots k).retiring
      painting := fun k sn bank str ws hjob => by rwa [State.JobSound, hjob] at job
      clearing := fun k ws hjob => by rwa [State.JobSound, hjob] at job
      housed := fun k hlive => (Option.isSome_map ..).symm.trans
        (Option.isSome_iff_ne_none.2 ((slots k).housed ((s.isLive_iff k).1 hlive))) }

/-- What a sound field queue reads of a record. -/
def Record.queueing (r : Record) : Bool × Bool × SlotState × Nat × Nat := (r.queued, r.due, r.state, r.panel, r.width)

theorem Record.queueing_eq_iff {r x : Record} : r.queueing = x.queueing ↔
    r.queued = x.queued ∧ r.due = x.due ∧ r.state = x.state ∧ r.panel = x.panel ∧ r.width = x.width := by
  simp [Record.queueing]

section
variable {s t : State} {k : Nat}

/-- A slot stays sound while its record, its place in the queue, its panel and its clear job stay. -/
theorem State.SlotSound.congr (h : s.SlotSound k) (slot : (t.slot k).queueing = (s.slot k).queueing)
    (queue : k ∈ t.ptr.queue ↔ k ∈ s.ptr.queue)
    (house : (s.slot k).state = .live → t.house (s.slot k).panel = s.house (s.slot k).panel)
    (clears : s.ptr.painter.Clears k → t.ptr.painter.Clears k) : t.SlotSound k := by
  obtain ⟨hqueued, hdue, hstate, hpanel, _⟩ := Record.queueing_eq_iff.1 slot
  constructor
  · rw [hqueued, queue]
    exact h.flag
  · rw [hstate, queue, hpanel]
    exact fun hk => (h.member hk).imp_right fun ⟨hlive, hopen⟩ => ⟨hlive, (house hlive).trans hopen⟩
  · rw [hdue, hstate, hpanel]
    exact fun hd => (h.due hd).imp_right fun hfrozen => (house (h.due hd).1).trans hfrozen
  · rw [hstate, hqueued]
    exact fun hr => (h.retiring hr).imp_right clears
  · rw [hstate, hpanel]
    exact fun hlive => house hlive ▸ h.housed hlive

/-- An empty slot that is not in the queue. -/
theorem State.slotSound_of_empty (slot : s.slot k = Record.empty) (hk : k ∉ s.ptr.queue) : s.SlotSound k := by
  constructor <;> rw [slot]
  · exact iff_of_false Bool.false_ne_true hk
  · exact fun hmem => absurd hmem hk
  · nofun
  · nofun
  · nofun

/-- The job in hand stays sound while its slot stays taken with its width, and a RETIRING slot stays as it is. -/
theorem State.JobSound.congr (h : s.JobSound) (painter : t.ptr.painter = s.ptr.painter)
    (taken : ∀ k, (s.slot k).state ≠ .free → (t.slot k).state ≠ .free ∧ (t.slot k).width = (s.slot k).width)
    (retiring : ∀ k, (s.slot k).state = .retiring →
      (t.slot k).state = .retiring ∧ (t.slot k).queued = (s.slot k).queued) : t.JobSound := by
  unfold State.JobSound at h ⊢
  rw [painter]
  cases hjob : s.ptr.painter with
  | idle => trivial
  | painting k sn bank str ws =>
    rw [hjob] at h
    obtain ⟨hstate, hws, hstr⟩ := h
    obtain ⟨hstate', hwidth⟩ := taken k hstate
    exact ⟨hstate', hws, hwidth ▸ hstr⟩
  | clearing k ws =>
    rw [hjob] at h
    obtain ⟨hstate, hqueued, hws⟩ := h
    obtain ⟨hstate', hqueued'⟩ := retiring k hstate
    exact ⟨hstate', hqueued'.trans hqueued, hws⟩

theorem State.jobSound_of_idle (h : s.ptr.painter = .idle) : s.JobSound := by
  rw [State.JobSound, h]
  trivial

end

/-! ## Updates that leave all that the queue reads -/

/-- `t` and `s` agree in all that a sound field queue reads. -/
structure State.SameQueue (s t : State) : Prop where
  slot : ∀ k, (t.slot k).queueing = (s.slot k).queueing
  panels : t.panels = s.panels
  ptr : t.ptr = s.ptr

namespace State.SameQueue

variable {s t u : State}

theorem of_slots (slots : t.ftb.slots = s.ftb.slots) (panels : t.panels = s.panels) (ptr : t.ptr = s.ptr) : s.SameQueue t :=
  ⟨fun k => by rw [State.slot_of_slots slots], panels, ptr⟩

theorem refl (s : State) : s.SameQueue s := of_slots rfl rfl rfl

theorem trans (hst : s.SameQueue t) (htu : t.SameQueue u) : s.SameQueue u :=
  ⟨fun k => (htu.slot k).trans (hst.slot k), htu.panels.trans hst.panels, htu.ptr.trans hst.ptr⟩

/-- A fold whose every step leaves the queue; `state` finds the state in what is folded. -/
theorem foldl_of {σ β : Type} (state : σ → State) {f : σ → β → σ} (step : ∀ a b, (state a).SameQueue (state (f a b)))
    (l : List β) (a : σ) : (state a).SameQueue (state (l.foldl f a)) :=
  List.foldlRecOn (motive := fun b => (state a).SameQueue (state b)) l f (.refl _) fun b same x _ => same.trans (step b x)

theorem foldl {β : Type} {f : State → β → State} (step : ∀ (s : State) b, s.SameQueue (f s b)) (l : List β) (s : State) :
    s.SameQueue (l.foldl f s) := foldl_of (fun s => s) step l s

theorem state (h : s.SameQueue t) (k : Nat) : (t.slot k).state = (s.slot k).state :=
  (Record.queueing_eq_iff.1 (h.slot k)).2.2.1

theorem isLive (h : s.SameQueue t) (k : Nat) : t.isLive k = s.isLive k := by
  rw [State.isLive, h.state, State.isLive]

theorem slotSound {k : Nat} (h : s.SameQueue t) (sound : s.SlotSound k) : t.SlotSound k :=
  sound.congr (h.slot k) (by rw [h.ptr]) (fun _ => State.house_of_panels h.panels _) (by rw [h.ptr]; exact id)

theorem queueSound (h : s.SameQueue t) (sound : s.QueueSound) : t.QueueSound := by
  obtain ⟨nodup, slots, job⟩ := State.queueSound_iff.1 sound
  refine State.queueSound_iff.2 ⟨h.ptr ▸ nodup, fun k => h.slotSound (slots k), job.congr (by rw [h.ptr]) (fun k hk => ?_)
    fun k hk => ?_⟩
  all_goals obtain ⟨hqueued, _, hstate, _, hwidth⟩ := Record.queueing_eq_iff.1 (h.slot k)
  · exact ⟨hstate ▸ hk, hwidth⟩
  · exact ⟨hstate.trans hk, hqueued⟩

end State.SameQueue

/-! ### Records and ticks (chapter 4) -/

section
variable (s : State) (k : Nat)

theorem State.updSlot_sameQueue {f : Record → Record} (hf : (f (s.slot k)).queueing = (s.slot k).queueing) :
    s.SameQueue (s.updSlot k f) :=
  ⟨fun j => by
    rw [State.slot_updSlot]
    split
    · next hj => rw [hj, hf]
    · rfl, rfl, rfl⟩

theorem State.raise_sameQueue (flag : StickyFlag) : s.SameQueue (s.raise flag) := .of_slots rfl rfl rfl

theorem State.enterAlert_sameQueue (e : AlertEntry) : s.SameQueue (s.enterAlert e) := by
  rw [State.enterAlert_eq]
  exact .of_slots rfl rfl rfl

theorem State.evaluateBand_sameQueue : s.SameQueue (s.evaluateBand k) := by
  have evaluated : s.SameQueue (s.setSlot k ((s.slot k).evaluated s.agu.alertFrames)) :=
    s.updSlot_sameQueue k (f := fun r => r.evaluated s.agu.alertFrames) rfl
  rw [State.evaluateBand_eq]
  split
  · exact evaluated.trans (State.enterAlert_sameQueue _ _)
  · exact evaluated

theorem State.applyValue_sameQueue (v : Int) (d : Direction) : s.SameQueue (s.applyValue k v d) :=
  (s.updSlot_sameQueue k (by rw [Record.applied_eq_taking]; rfl)).trans (State.evaluateBand_sameQueue _ k)

theorem TickAcc.freshen_sameQueue (a : TickAcc) : a.state.SameQueue (a.freshen k).state :=
  a.state.updSlot_sameQueue k (f := fun x => { x with stale := false }) rfl

theorem fanNet_sameQueue (v : Int) (a : TickAcc) : a.state.SameQueue (fanNet v a k).state := by
  have operand : a.state.SameQueue (a.withOperand k v).state :=
    a.state.updSlot_sameQueue k (f := fun x => { x with lastOperand := some v }) rfl
  cases hreference : (a.state.slot k).reference with
  | some reference =>
    rw [fanNet_eq_of_some hreference]
    exact operand.trans (State.applyValue_sameQueue _ k _ _)
  | none =>
    rw [fanNet_eq_of_none hreference]
    exact operand.trans (TickAcc.freshen_sameQueue k _)

theorem fanExtreme_sameQueue (v : Int) (beats : Int → Bool) (d : Direction) (a : TickAcc) :
    a.state.SameQueue (fanExtreme v beats d a k).state := by
  unfold fanExtreme
  split
  · exact a.state.applyValue_sameQueue k _ _
  · split
    · exact a.state.applyValue_sameQueue k _ _
    · exact a.freshen_sameQueue k

theorem fanOut_sameQueue (instrument : Nat) (v : Int) (a : TickAcc) :
    a.state.SameQueue (fanOut s instrument v a).state := by
  simp only [fanOut, fanHigh_eq, fanLow_eq]
  exact ((State.SameQueue.foldl_of TickAcc.state (fun a k => fanNet_sameQueue k v a) _ a).trans
    (.foldl_of TickAcc.state (fun a k => fanExtreme_sameQueue k v _ _ a) _ _)).trans
    (.foldl_of TickAcc.state (fun a k => fanExtreme_sameQueue k v _ _ a) _ _)

theorem State.clearGuard_sameQueue (mirrors : List Nat) : s.SameQueue (s.clearGuard mirrors) := by
  have marks (t : State) : t.SameQueue (mirrors.foldl (fun t k => t.updSlot k (fun r => { r with suspect := false })) t) :=
    .foldl (fun t k => t.updSlot_sameQueue k rfl) mirrors t
  cases mirrors with
  | nil => exact marks s
  | cons lead others =>
    exact (s.updSlot_sameQueue lead (f := fun r => { r with suspectValue := none, holdCount := 0 }) rfl).trans (marks _)

theorem State.holdPrint_sameQueue (lead : Nat) (mirrors : List Nat) (v : Int) : s.SameQueue (s.holdPrint lead mirrors v) :=
  ((s.updSlot_sameQueue lead rfl).trans (.foldl (fun t k => t.updSlot_sameQueue k rfl) mirrors _)).trans
    (State.raise_sameQueue _ _)

theorem acceptTick_sameQueue (a : TickAcc) (instrument : Nat) (kind : Kind) (v : Int) (d : Direction) :
    a.state.SameQueue (acceptTick a instrument kind v d).state := by
  have applied : a.state.SameQueue _ := (a.state.clearGuard_sameQueue (a.state.mirrors instrument kind)).trans
    (.foldl_of TickAcc.state (f := fun a k => a.apply k v d) (fun a k => a.state.applyValue_sameQueue k v d)
      (a.state.mirrors instrument kind) { a with state := a.state.clearGuard (a.state.mirrors instrument kind) })
  simp only [acceptTick]
  split
  · exact applied.trans (fanOut_sameQueue _ _ _ _)
  · exact applied

theorem evaluateTick_sameQueue (a : TickAcc) (instrument : Nat) (kind : Kind) (value : Int) :
    a.state.SameQueue (evaluateTick a instrument kind value).2.state := by
  simp only [evaluateTick]
  split
  · split
    · exact acceptTick_sameQueue { a with updated := 0 } _ _ _ _
    · exact .refl _
  · split
    · exact a.state.holdPrint_sameQueue _ _ _
    · exact acceptTick_sameQueue { a with updated := 0 } _ _ _ _

theorem evaluateTicks_sameQueue (instrument : Nat) (values : List (Kind × Int)) (a : TickAcc) (out : List Byte) :
    a.state.SameQueue (evaluateTicks instrument values a out).1.state := by
  induction values generalizing a out with
  | nil => exact .refl _
  | cons value rest ih => exact (evaluateTick_sameQueue a instrument value.1 value.2).trans (ih _ _)

theorem Record.endTick_queueing (r : Record) : r.endTick.queueing = r.queueing := by
  unfold Record.endTick
  split <;> rfl

theorem State.referSlot_sameQueue (reference : Option Int) : s.SameQueue (State.referSlot reference s k) :=
  (s.updSlot_sameQueue k (by rw [Record.referred_eq]; exact Record.endTick_queueing _)).trans
    (State.evaluateBand_sameQueue _ k)

theorem State.restartSlot_sameQueue (v : Option Int) : s.SameQueue (State.restartSlot v s k) :=
  (s.updSlot_sameQueue k (f := fun r => r.restarted v) (Record.endTick_queueing _)).trans (State.evaluateBand_sameQueue _ k)

/-! ### Claims, schemes, the sweep and cell writes -/

theorem State.claimAll_sameQueue (cells : List Nat) : s.SameQueue (s.claimAll k cells) := by
  rw [(State.claimAll_spec s k cells).2]
  exact .of_slots rfl rfl rfl

theorem State.setScheme_sameQueue (bank : Bank) (condition index : Nat) : s.SameQueue (s.setScheme bank condition index) := by
  cases bank <;> exact .of_slots rfl rfl rfl

theorem Record.aged_queueing (r : Record) (n : Nat) : (r.aged n).queueing = r.queueing := by
  unfold Record.aged
  split
  · rfl
  · split <;> rfl

theorem State.ageAll_sameQueue : s.SameQueue s.ageAll := by
  unfold State.ageAll
  generalize allSlots.filter (fun k => 0 < (s.slot k).age) = running
  have aged : s.SameQueue (running.foldl (fun t k => t.updSlot k (fun r => r.aged s.agu.owed)) s) :=
    .foldl (fun t k => t.updSlot_sameQueue k (Record.aged_queueing _ _)) running s
  exact aged.trans (.of_slots rfl rfl rfl)

theorem State.unlink_sameQueue : s.SameQueue (s.unlink k) where
  slot := State.unlink_view (view := Record.queueing) (fun _ _ _ => rfl) s k
  panels := (congrArg State.panels (s.unlink_frame k)).trans rfl
  ptr := (congrArg State.ptr (s.unlink_frame k)).trans rfl

end

theorem State.LinkOnly.sameQueue {s t : State} (link : s.LinkOnly t) : s.SameQueue t := by
  rw [State.LinkOnly] at link
  exact .of_slots (by rw [link]) (by rw [link]) (by rw [link])

theorem State.Written.sameQueue {s t : State} (written : s.Written t) : s.SameQueue t := by
  rw [State.Written] at written
  exact .of_slots (by rw [written]) (by rw [written]) (by rw [written])

end Sys2Proof.Machine
end

section
/-!
PROOFS, the field queue through each operation that joins it, leaves it or moves a record or a panel (R140, R141, R63, R114 to R121,
R143 to R151).
-/

namespace Sys2Proof.Machine

/-! ## Changes of one slot -/

/-- From `s` to `t` at most slot `k`, its place in the queue and its job change, among all that the field queue reads. -/
structure State.OnlySlot (s t : State) (k : Nat) : Prop where
  slots : ∀ j, j ≠ k → (t.slot j).queueing = (s.slot j).queueing
  panels : t.panels = s.panels
  queue : ∀ j, j ≠ k → (j ∈ t.ptr.queue ↔ j ∈ s.ptr.queue)
  clears : ∀ j, j ≠ k → s.ptr.painter.Clears j → t.ptr.painter.Clears j

section
variable {s t u : State} {k : Nat}

theorem State.SameQueue.onlySlot (h : s.SameQueue t) (k : Nat) : s.OnlySlot t k :=
  ⟨fun j _ => h.slot j, h.panels, fun j _ => by rw [h.ptr], fun j _ => by rw [h.ptr]; exact id⟩

theorem State.OnlySlot.trans (hst : s.OnlySlot t k) (htu : t.OnlySlot u k) : s.OnlySlot u k where
  slots j hj := (htu.slots j hj).trans (hst.slots j hj)
  panels := htu.panels.trans hst.panels
  queue j hj := (htu.queue j hj).trans (hst.queue j hj)
  clears j hj := htu.clears j hj ∘ hst.clears j hj

theorem State.updSlot_onlySlot (s : State) (k : Nat) (f : Record → Record) : s.OnlySlot (s.updSlot k f) k :=
  ⟨fun j hj => by rw [State.slot_updSlot, if_neg hj], rfl, fun _ _ => Iff.rfl, fun _ _ => id⟩

theorem State.enqueue_onlySlot (s : State) (k : Nat) : s.OnlySlot (s.enqueue k) k where
  slots j hj := by rw [State.slot_enqueue, if_neg hj]
  panels := rfl
  queue j hj := by simp [State.enqueue, State.updSlot, State.setSlot, hj]
  clears _ _ := id

/-- A sound queue stays sound when the one slot that changes is sound again. -/
theorem State.OnlySlot.queueSound (o : s.OnlySlot t k) (h : s.QueueSound) (nodup : t.ptr.queue.Nodup) (slot : t.SlotSound k)
    (job : t.JobSound) : t.QueueSound := by
  obtain ⟨_, slots, _⟩ := State.queueSound_iff.1 h
  refine State.queueSound_iff.2 ⟨nodup, fun j => ?_, job⟩
  by_cases hj : j = k
  · exact hj ▸ slot
  · exact (slots j).congr (o.slots j hj) (o.queue j hj) (fun _ => State.house_of_panels o.panels _) (o.clears j hj)

/-- The job in hand stays sound when the slot that changes is not RETIRING and stays taken, if it was, with its width. -/
theorem State.OnlySlot.jobSound (o : s.OnlySlot t k) (job : s.JobSound) (painter : t.ptr.painter = s.ptr.painter)
    (hk : (s.slot k).state ≠ .retiring)
    (taken : (s.slot k).state ≠ .free → (t.slot k).state ≠ .free ∧ (t.slot k).width = (s.slot k).width) : t.JobSound := by
  refine job.congr painter (fun j hstate => ?_) fun j hstate => ?_
  · by_cases hj : j = k
    · subst hj
      exact taken hstate
    · obtain ⟨_, _, hstate', _, hwidth⟩ := Record.queueing_eq_iff.1 (o.slots j hj)
      exact ⟨hstate' ▸ hstate, hwidth⟩
  · obtain ⟨hqueued, _, hstate', _⟩ := Record.queueing_eq_iff.1 (o.slots j fun hj => hk (hj ▸ hstate))
    exact ⟨hstate'.trans hstate, hqueued⟩

/-! ## Becoming due (R140, R141) -/

/-- A slot that is not queued joins the tail: no slot is in the queue twice. -/
theorem State.QueueSound.nodup_append (h : s.QueueSound) (hqueued : (s.slot k).queued = false) :
    (s.ptr.queue ++ [k]).Nodup := by
  have hk : k ∉ s.ptr.queue := fun hmem => by simp [(h.flag k).2 hmem] at hqueued
  exact List.nodup_append_comm.1 (List.nodup_cons.2 ⟨hk, h.nodup⟩)

theorem State.QueueSound.becomeDue (h : s.QueueSound) (live : s.isLive k = true) : (s.becomeDue k).QueueSound := by
  have hlive := (s.isLive_iff k).1 live
  have hretiring : (s.slot k).state ≠ .retiring := by rw [hlive]; nofun
  obtain ⟨_, slots, job⟩ := State.queueSound_iff.1 h
  have sound := slots k
  unfold State.becomeDue
  split
  · exact h
  · next hqueued =>
    have hqueued : (s.slot k).queued = false := Bool.not_eq_true _ ▸ hqueued
    split
    · next held =>
      have hfrozen : s.house (s.slot k).panel = some true :=
        State.isFrozen_iff_house.1 (Bool.and_eq_true_iff.1 held).2
      have only := s.updSlot_onlySlot k (fun r => { r with due := true })
      have slot : (s.updSlot k (fun r => { r with due := true })).slot k = { s.slot k with due := true } :=
        (s.slot_updSlot ..).trans (if_pos rfl)
      refine only.queueSound h h.nodup ?_ (only.jobSound job rfl hretiring fun hstate => ?_)
      · constructor <;> rw [slot]
        · exact sound.flag
        · exact sound.member
        · exact fun _ => ⟨hlive, hfrozen⟩
        · exact sound.retiring
        · exact sound.housed
      · rw [slot]
        exact ⟨hstate, rfl⟩
    · next hopen =>
      have hopen : s.house (s.slot k).panel = some false := by
        cases hhouse : s.house (s.slot k).panel with
        | none => exact absurd hhouse (sound.housed hlive)
        | some frozen =>
          cases frozen with
          | false => rfl
          | true => exact absurd (Bool.and_eq_true_iff.2 ⟨live, State.isFrozen_iff_house.2 hhouse⟩) hopen
      have only := s.enqueue_onlySlot k
      have slot : (s.enqueue k).slot k = { s.slot k with queued := true } := (s.slot_enqueue ..).trans (if_pos rfl)
      have mem : k ∈ (s.enqueue k).ptr.queue := List.mem_append_right _ (List.mem_singleton_self k)
      refine only.queueSound h (h.nodup_append hqueued) ?_ (only.jobSound job rfl hretiring fun hstate => ?_)
      · constructor <;> rw [slot]
        · exact ⟨fun _ => mem, fun _ => rfl⟩
        · exact fun _ => .inr ⟨hlive, hopen⟩
        · exact sound.due
        · exact fun _ => .inl rfl
        · exact sound.housed
      · rw [slot]
        exact ⟨hstate, rfl⟩

theorem State.becomeDue_isLive (s : State) (k j : Nat) : (s.becomeDue k).isLive j = s.isLive j := by
  rw [State.isLive, s.becomeDue_keeps (P := fun _ => False) k .states id j, State.isLive]

/-- A group of LIVE records becomes due. -/
theorem State.QueueSound.joinGroup (h : s.QueueSound) {due : List Nat} (live : ∀ k ∈ due, s.isLive k = true) :
    (s.joinGroup due).QueueSound := by
  rw [State.joinGroup_eq_foldl]
  refine (List.foldlRecOn (motive := fun t => t.QueueSound ∧ ∀ k, t.isLive k = s.isLive k) (ascending due)
    State.becomeDue ⟨h, fun _ => rfl⟩ fun t ⟨sound, same⟩ k hk =>
      ⟨sound.becomeDue ?_, fun j => (t.becomeDue_isLive k j).trans (same j)⟩).1
  exact (same k).trans (live k (mem_ascending.1 hk).1)

/-- A group of LIVE records becomes due after an update that leaves all that the queue reads. -/
theorem State.SameQueue.joined (same : s.SameQueue t) (h : s.QueueSound) {due : List Nat}
    (live : ∀ k ∈ due, s.isLive k = true) : (t.joinGroup due).QueueSound :=
  (same.queueSound h).joinGroup fun k hk => (same.isLive k).trans (live k hk)

/-! ## Binding and retiring (R54, R63) -/

theorem State.QueueSound.bindApply (h : s.QueueSound) {b : Binding} {p : List Byte} (accepted : b.Accepted p s) :
    (bindApply b s).QueueSound := by
  obtain ⟨_, slots, job⟩ := State.queueSound_iff.1 h
  have hfree := (State.lowestFree_some accepted.slot).2.1
  have hretiring : (s.slot b.slot).state ≠ .retiring := by rw [hfree]; nofun
  have frame := bindApply_frame b s
  have hpanels : (Machine.bindApply b s).panels = s.panels := by rw [frame]
  have hpainter : (Machine.bindApply b s).ptr.painter = s.ptr.painter := by rw [frame]
  have hqueue : (Machine.bindApply b s).ptr.queue =
      if s.isFrozen b.panelNo then s.ptr.queue else s.ptr.queue ++ [b.slot] := by
    rw [frame]
  have hunqueued : b.slot ∉ s.ptr.queue := fun hmem => by
    rcases (slots b.slot).member hmem with hstate | ⟨hstate, _⟩ <;> rw [hfree] at hstate <;> cases hstate
  have hslot : ((Machine.bindApply b s).slot b.slot).queueing
      = (!s.isFrozen b.panelNo, s.isFrozen b.panelNo, .live, b.panelNo, b.width) := by
    rw [bindApply_slot, if_pos rfl, Binding.valued_eq]
    rfl
  obtain ⟨hqueued, hdue, hstate, hpanel, _⟩ :=
    Record.queueing_eq_iff (x := { b.record with queued := !s.isFrozen b.panelNo, due := s.isFrozen b.panelNo }).1 hslot
  have hhouse : (Machine.bindApply b s).house b.panelNo = some (s.isFrozen b.panelNo) := by
    rw [State.house_of_panels hpanels, State.house, State.isFrozen, accepted.panel]
    rfl
  have only : s.OnlySlot (Machine.bindApply b s) b.slot := {
    slots := fun j hj => by rw [bindApply_slot, if_neg hj]
    panels := hpanels
    queue := fun j hj => by
      rw [hqueue]
      split <;> simp [hj]
    clears := fun j _ => by rw [hpainter]; exact id }
  refine only.queueSound h ?_ ⟨?_, ?_, ?_, ?_, ?_⟩ (only.jobSound job hpainter hretiring fun hstate => absurd hfree hstate)
  · rw [hqueue]
    split
    · exact h.nodup
    · exact h.nodup_append (Bool.eq_false_iff.2 fun hq => hunqueued ((h.flag _).1 hq))
  · rw [hqueued, hqueue]
    cases s.isFrozen b.panelNo <;> simp [hunqueued]
  · rw [hqueue, hpanel]
    cases hfrozen : s.isFrozen b.panelNo with
    | false => exact fun _ => .inr ⟨hstate, hfrozen ▸ hhouse⟩
    | true => exact fun hmem => absurd hmem hunqueued
  · rw [hdue, hpanel]
    exact fun hfrozen => ⟨hstate, hhouse.trans (congrArg some hfrozen)⟩
  · rw [hstate]
    nofun
  · rw [hpanel]
    exact fun _ hnone => by cases hhouse.symm.trans hnone

theorem State.withdraw_queueing (s : State) (k j : Nat) : ((s.withdraw k).slot j).queueing =
    if j = k then ((s.slot k).queued, false, .retiring, (s.slot k).panel, (s.slot k).width) else (s.slot j).queueing := by
  have base : (s.withdraw k).slot j = ((s.unlink k).updSlot k Record.withdrawn).slot j := rfl
  have unlinked := (s.unlink_sameQueue k).slot
  rw [base, State.slot_updSlot]
  split
  · obtain ⟨hqueued, _, _, hpanel, hwidth⟩ := Record.queueing_eq_iff.1 (unlinked k)
    rw [← hqueued, ← hpanel, ← hwidth]
    rfl
  · exact unlinked j

/-- A retired record is RETIRING and queued, its due flag cleared (R63). -/
theorem State.retire_queueing (s : State) (k j : Nat) : ((s.retire k).slot j).queueing =
    if j = k then (true, false, .retiring, (s.slot k).panel, (s.slot k).width) else (s.slot j).queueing := by
  have withdrawn := s.withdraw_queueing k
  rw [State.retire_eq]
  split
  · next hqueued =>
    rw [s.withdraw_queued] at hqueued
    rw [withdrawn, hqueued]
  · rw [State.slot_enqueue]
    split
    · have := withdrawn k
      rw [if_pos rfl] at this
      obtain ⟨_, hdue, hstate, hpanel, hwidth⟩ :=
        Record.queueing_eq_iff (x := { s.slot k with due := false, state := .retiring }).1 this
      exact Record.queueing_eq_iff (x := { s.slot k with queued := true, due := false, state := .retiring }).2
        ⟨rfl, hdue, hstate, hpanel, hwidth⟩
    · next hj => rw [withdrawn, if_neg hj]

theorem State.QueueSound.retire (h : s.QueueSound) (live : s.isLive k = true) : (s.retire k).QueueSound := by
  obtain ⟨_, _, job⟩ := State.queueSound_iff.1 h
  have hlive := (s.isLive_iff k).1 live
  have hretiring : (s.slot k).state ≠ .retiring := by rw [hlive]; nofun
  obtain ⟨_, hptr⟩ := s.retire_lists k
  have hpainter : (s.retire k).ptr.painter = s.ptr.painter := by rw [hptr]
  have hqueue : (s.retire k).ptr.queue = s.ptr.queue ++ [k].filter (fun j => !(s.slot j).queued) := by rw [hptr]
  have slot := s.retire_queueing k k
  rw [if_pos rfl] at slot
  obtain ⟨hqueued, hdue, hstate, _, hwidth⟩ :=
    Record.queueing_eq_iff (x := { s.slot k with queued := true, due := false, state := .retiring }).1 slot
  have mem : k ∈ (s.retire k).ptr.queue := by
    rw [hqueue]
    cases hq : (s.slot k).queued with
    | true => exact List.mem_append_left _ ((h.flag k).1 hq)
    | false => simp [hq]
  have only : s.OnlySlot (s.retire k) k := {
    slots := fun j hj => by rw [s.retire_queueing, if_neg hj]
    panels := s.retire_keeps (P := fun a => a = .states) k rfl .panels nofun
    queue := fun j hj => by
      rw [hqueue]
      simp [hj]
    clears := fun j _ => by rw [hpainter]; exact id }
  refine only.queueSound h ?_ ⟨?_, fun _ => .inl hstate, ?_, fun _ => .inl hqueued, ?_⟩
    (only.jobSound job hpainter hretiring fun _ => ⟨?_, hwidth⟩)
  · rw [hqueue]
    cases hq : (s.slot k).queued with
    | true => simpa [hq] using h.nodup
    | false => simpa [hq] using h.nodup_append hq
  · exact ⟨fun _ => mem, fun _ => hqueued⟩
  · rw [hdue]
    nofun
  · rw [hstate]
    nofun
  · rw [hstate]
    nofun

/-! ## Panels (R114 to R120) -/

/-- A panel's entry set: every LIVE record there finds its panel as FROZEN or as OPEN as before. -/
theorem State.QueueSound.setPanel (h : s.QueueSound) {p : Nat} {e : Option Panel}
    (house : ∀ k, (s.slot k).state = .live → (s.slot k).panel = p → e.map Panel.frozen = s.house p) :
    (s.setPanel p e).QueueSound := by
  obtain ⟨nodup, slots, job⟩ := State.queueSound_iff.1 h
  refine State.queueSound_iff.2 ⟨nodup, fun k => (slots k).congr rfl Iff.rfl (fun hlive => ?_) id,
    job.congr rfl (fun _ hstate => ⟨hstate, rfl⟩) fun _ hstate => ⟨hstate, rfl⟩⟩
  rw [State.house_setPanel]
  split
  · next hp => rw [hp, house k hlive hp]
  · rfl

/-- No LIVE record is in a CLOSED panel, so one can be opened (R112, R114). -/
theorem State.QueueSound.openPanel (h : s.QueueSound) {p : Nat} (hclosed : s.panel p = none) (e : Option Panel) :
    (s.setPanel p e).QueueSound := by
  refine h.setPanel fun k hlive hp => ?_
  have housed := h.housed k ((s.isLive_iff k).2 hlive)
  rw [hp, hclosed] at housed
  cases housed

theorem State.retire_isLive_of_ne {j : Nat} (hj : j ≠ k) : (s.retire k).isLive j = s.isLive j := by
  rw [State.isLive, State.retire_state, if_neg hj, State.isLive]

theorem State.QueueSound.foldl_retire {l : List Nat} (hl : l.Nodup) (h : s.QueueSound) (live : ∀ k ∈ l, s.isLive k = true) :
    (l.foldl State.retire s).QueueSound := by
  induction l generalizing s with
  | nil => exact h
  | cons k rest ih =>
    obtain ⟨hk, hrest⟩ := List.nodup_cons.1 hl
    obtain ⟨hlive, hlives⟩ := List.forall_mem_cons.1 live
    exact ih hrest (h.retire hlive) fun j hj => (State.retire_isLive_of_ne fun hjk : j = k => hk (hjk ▸ hj)).trans (hlives j hj)

/-- A closed panel's LIVE records have all been retired (R115). -/
theorem State.QueueSound.panelClose (h : s.QueueSound) (inRange : s.InRange) (p : Nat) : (panelClose p s).QueueSound := by
  have nodup := s.panelRecords_nodup p
  have retired := h.foldl_retire nodup fun k hk => (State.mem_panelRecords hk).2
  refine retired.setPanel fun k hlive hp => ?_
  have hstate := (Machine.foldl_retire nodup s).1 k
  rw [hlive] at hstate
  split at hstate
  · cases hstate
  · next hk =>
    have placed := State.Keeps.foldl (P := fun a => a = .states) (fun t j => t.retire_keeps j rfl) (s.panelRecords p) s
      .places nofun k
    have live : s.isLive k = true := (s.isLive_iff k).2 hstate.symm
    have hk' : k ∈ s.panelRecords p := by
      simp only [State.panelRecords, List.mem_filter, allSlots, List.mem_range, live, Bool.true_and, beq_iff_eq]
      exact ⟨inRange.lt_of_not_free (State.not_free_of_live live), (Record.placement_eq_iff.1 placed).1.symm.trans hp⟩
    exact absurd hk' hk

/-- From `s` to `t` panel `p` becomes FROZEN or OPEN, and with it the LIVE records of the panel in `switched`: in a FROZEN panel
their due flags are set, in an OPEN one they are queued.  The panel's other LIVE records are neither queued nor due. -/
structure State.Switches (s t : State) (p : Nat) (frozen : Bool) (switched : Nat → Bool) : Prop where
  home : ∀ k, switched k = true → (s.slot k).state = .live ∧ (s.slot k).panel = p
  others : ∀ k, switched k = false → (s.slot k).state = .live → (s.slot k).panel = p →
    (s.slot k).queued = false ∧ (s.slot k).due = false
  slot : ∀ k, t.slot k = if switched k then { s.slot k with queued := !frozen, due := frozen } else s.slot k
  house : ∀ q, t.house q = if q = p then some frozen else s.house q
  painter : t.ptr.painter = s.ptr.painter
  nodup : t.ptr.queue.Nodup
  queue : ∀ k, k ∈ t.ptr.queue ↔ if switched k then frozen = false else k ∈ s.ptr.queue

theorem State.Switches.queueSound {p : Nat} {frozen : Bool} {switched : Nat → Bool} (w : s.Switches t p frozen switched)
    (h : s.QueueSound) : t.QueueSound := by
  obtain ⟨_, slots, job⟩ := State.queueSound_iff.1 h
  refine State.queueSound_iff.2 ⟨w.nodup, fun k => ?_, job.congr w.painter (fun k hstate => ?_) fun k hstate => ?_⟩
  · have slot := w.slot k
    have queue := w.queue k
    cases hswitched : switched k with
    | true =>
      rw [hswitched, if_pos rfl] at slot queue
      obtain ⟨hlive, hp⟩ := w.home k hswitched
      have house : t.house (s.slot k).panel = some frozen := (w.house _).trans (if_pos hp)
      constructor <;> rw [slot]
      · rw [queue]
        exact Bool.not_eq_true' frozen ▸ Iff.rfl
      · exact fun hmem => .inr ⟨hlive, house.trans (congrArg some (queue.1 hmem))⟩
      · exact fun hdue => ⟨hlive, house.trans (congrArg some hdue)⟩
      · exact fun hretiring => SlotState.noConfusion (hlive.symm.trans hretiring)
      · exact fun _ hnone => by cases house.symm.trans hnone
    | false =>
      rw [hswitched, if_neg Bool.false_ne_true] at slot queue
      by_cases hhome : (s.slot k).state = .live ∧ (s.slot k).panel = p
      · obtain ⟨hlive, hp⟩ := hhome
        obtain ⟨hqueued, hdue⟩ := w.others k hswitched hlive hp
        have house : t.house (s.slot k).panel = some frozen := (w.house _).trans (if_pos hp)
        have hunqueued : k ∉ t.ptr.queue := fun hmem => by simp [(h.flag k).2 (queue.1 hmem)] at hqueued
        constructor <;> rw [slot]
        · simp [hqueued, hunqueued]
        · exact fun hmem => absurd hmem hunqueued
        · simp [hdue]
        · exact fun hretiring => SlotState.noConfusion (hlive.symm.trans hretiring)
        · exact fun _ hnone => by cases house.symm.trans hnone
      · exact (slots k).congr (congrArg _ slot) queue (fun hlive => (w.house _).trans (if_neg fun hp => hhome ⟨hlive, hp⟩))
          (by rw [w.painter]; exact id)
  · rw [w.slot]
    split <;> exact ⟨hstate, rfl⟩
  · have unswitched : ¬ switched k = true := fun hswitched =>
      SlotState.noConfusion ((w.home k hswitched).1.symm.trans hstate)
    rw [w.slot, if_neg unswitched]
    exact ⟨hstate, rfl⟩

/-- A LIVE record of an OPEN panel is not due, one of a FROZEN panel is not queued (R33, R139). -/
theorem State.QueueSound.unswitched (h : s.QueueSound) {frozen : Bool} (hhouse : s.house (s.slot k).panel = some frozen)
    (hlive : (s.slot k).state = .live) :
    (frozen = false → (s.slot k).due = false) ∧ (frozen = true → (s.slot k).queued = false) := by
  have sound := (State.queueSound_iff.1 h).2.1 k
  refine ⟨fun hopen => Bool.eq_false_iff.2 fun hdue => ?_, fun hfrozen => Bool.eq_false_iff.2 fun hqueued => ?_⟩
  · have := hhouse.symm.trans (sound.due hdue).2
    simp [hopen] at this
  · rcases sound.member (sound.flag.1 hqueued) with hretiring | ⟨_, hopen⟩
    · cases hlive.symm.trans hretiring
    · have := hhouse.symm.trans hopen
      simp [hfrozen] at this

theorem State.QueueSound.panelFreeze (h : s.QueueSound) (inRange : s.InRange) {p : Nat} {e : Panel} (he : s.panel p = some e) :
    (panelFreeze p e s).QueueSound := by
  cases hfrozen : e.frozen with
  | true => exact (panelFreeze_of_frozen hfrozen p s).symm ▸ h
  | false =>
    obtain ⟨hpanel, hslot, hframe⟩ := panelFreeze_spec s p hfrozen
    have hopen : s.house p = some false := State.house_eq_some_iff.2 ⟨e, he, hfrozen⟩
    have hqueue : (Machine.panelFreeze p e s).ptr.queue = s.ptr.queue.filter (fun k => !s.defers p k) := by rw [hframe]
    have defers (k : Nat) (hk : s.defers p k = true) :
        (s.slot k).state = .live ∧ (s.slot k).panel = p ∧ (s.slot k).queued = true := by
      simp only [State.defers, Bool.and_eq_true, s.isLive_iff, beq_iff_eq] at hk
      exact ⟨hk.1.1.2, hk.1.2, hk.2⟩
    refine State.Switches.queueSound (p := p) (frozen := true) (switched := s.defers p) {
      home := fun k hk => ⟨(defers k hk).1, (defers k hk).2.1⟩
      others := fun k hk hlive hp => ?_
      slot := hslot
      house := fun q => ?_
      painter := by rw [hframe]
      nodup := hqueue ▸ h.nodup.filter _
      queue := fun k => ?_ } h
    · have hlt := inRange.lt_of_not_free (k := k) (by rw [hlive]; nofun)
      refine ⟨?_, (h.unswitched (hp ▸ hopen) hlive).1 rfl⟩
      simpa [State.defers, (s.isLive_iff k).2 hlive, hp, hlt] using hk
    · rw [State.house, hpanel]
      split <;> rfl
    · rw [hqueue, List.mem_filter]
      cases s.defers p k <;> simp

theorem State.QueueSound.panelThaw (h : s.QueueSound) (inRange : s.InRange) {p : Nat} {e : Panel} (he : s.panel p = some e) :
    (panelThaw p e s).QueueSound := by
  cases hfrozen : e.frozen with
  | false => exact (panelThaw_of_open hfrozen p s).symm ▸ h
  | true =>
    obtain ⟨hpanel, hslot, hframe⟩ := panelThaw_spec s p hfrozen
    have hfrozen : s.house p = some true := State.house_eq_some_iff.2 ⟨e, he, hfrozen⟩
    have hqueue : (Machine.panelThaw p e s).ptr.queue = s.ptr.queue ++ allSlots.filter (s.resumes p) := by rw [hframe]
    have resumes (k : Nat) (hk : (k < 1024 && s.resumes p k) = true) :
        (s.slot k).state = .live ∧ (s.slot k).panel = p := by
      simp only [State.resumes, Bool.and_eq_true, s.isLive_iff, beq_iff_eq] at hk
      exact ⟨hk.2.1.1, hk.2.1.2⟩
    have mem (k : Nat) : k ∈ allSlots.filter (s.resumes p) ↔ (k < 1024 && s.resumes p k) = true := by
      simp only [allSlots, List.mem_filter, List.mem_range, Bool.and_eq_true, decide_eq_true_eq]
    have unqueued (k : Nat) (hk : (k < 1024 && s.resumes p k) = true) : k ∉ s.ptr.queue := fun hmem => by
      obtain ⟨hlive, hp⟩ := resumes k hk
      have := (h.unswitched (hp ▸ hfrozen) hlive).2 rfl
      simp [(h.flag k).2 hmem] at this
    refine State.Switches.queueSound (p := p) (frozen := false) (switched := fun k => k < 1024 && s.resumes p k) {
      home := resumes
      others := fun k hk hlive hp => ?_
      slot := hslot
      house := fun q => ?_
      painter := by rw [hframe]
      nodup := hqueue ▸ List.nodup_append'.2
        ⟨h.nodup, List.nodup_range.filter _, fun k hk hk' => unqueued k ((mem k).1 hk') hk⟩
      queue := fun k => ?_ } h
    · have hlt := inRange.lt_of_not_free (k := k) (by rw [hlive]; nofun)
      refine ⟨(h.unswitched (hp ▸ hfrozen) hlive).2 rfl, ?_⟩
      simpa [State.resumes, (s.isLive_iff k).2 hlive, hp, hlt] using hk
    · rw [State.house, hpanel]
      split <;> rfl
    · rw [hqueue, List.mem_append, mem]
      split
      · next hk => exact iff_of_true (.inr hk) rfl
      · next hk => exact or_iff_left hk

/-! ### Moves (R120, R121) -/

theorem State.QueueSound.reclaim (h : s.QueueSound) (live : s.isLive k = true) : (s.reclaim k).QueueSound := by
  cases hpanel : s.panel (s.slot k).panel with
  | none =>
    rw [State.reclaim, hpanel]
    exact h
  | some e =>
    have anchored : s.SameQueue (s.reanchored k e) :=
      (s.updSlot_sameQueue k (f := fun r => { r with page := e.page, row := e.row + r.rowOffset, col := e.col + r.colOffset })
        rfl).trans (State.claimAll_sameQueue _ k _)
    rw [State.reclaim_eq hpanel]
    exact (anchored.queueSound h).becomeDue ((anchored.isLive k).trans live)

theorem State.reclaim_isLive (s : State) (k j : Nat) : (s.reclaim k).isLive j = s.isLive j := by
  rw [State.isLive, s.reclaim_keeps (P := fun a => a = .claims ∨ a = .places) k (.inl rfl) (.inr rfl) .states (by simp) j,
    State.isLive]

theorem State.QueueSound.moveNext (h : s.QueueSound) (m : Message) (p cleared : Nat) {records : List Nat}
    (live : ∀ k ∈ records, s.isLive k = true) : (moveNext m p cleared records s).QueueSound := by
  induction records generalizing s with
  | nil => exact (s.endExecution_linkOnly m.code .ok []).sameQueue.queueSound h
  | cons k rest ih =>
    obtain ⟨hk, hrest⟩ := List.forall_mem_cons.1 live
    rw [moveNext_cons]
    split
    · exact ih (h.reclaim hk) fun j hj => (s.reclaim_isLive k j).trans (hrest j hj)
    · exact { h with }

theorem State.QueueSound.panelMove (h : s.QueueSound) (m : Message) {p : Nat} {e : Panel} (he : s.panel p = some e)
    (page row col : Nat) : (panelMove m p e page row col s).QueueSound := by
  have moved : (s.setPanel p (some { e with page := page, row := row, col := col })).QueueSound :=
    h.setPanel fun _ _ _ => by rw [State.house, he]; rfl
  exact moved.moveNext m p _ fun k hk => (State.mem_panelRecords hk).2

/-! ## The Painter's jobs (R143 to R151) -/

/-- The Painter on to another job, or the rest of one: a clear job in hand stays in hand. -/
theorem State.QueueSound.setPainter (h : s.QueueSound) {painter : Painter}
    (clears : ∀ k, s.ptr.painter.Clears k → painter.Clears k)
    (job : State.JobSound { s with ptr := { s.ptr with painter := painter } }) :
    State.QueueSound { s with ptr := { s.ptr with painter := painter } } := by
  obtain ⟨nodup, slots, _⟩ := State.queueSound_iff.1 h
  exact State.queueSound_iff.2 ⟨nodup, fun k => (slots k).congr rfl Iff.rfl (fun _ => rfl) (clears k), job⟩

theorem State.QueueSound.jobEnded (h : s.QueueSound) (k : Nat) : (s.jobEnded k).QueueSound :=
  (s.jobEnded_linkOnly k).sameQueue.queueSound h

/-- The end of a LIVE job leaves the Painter IDLE (R148). -/
theorem State.QueueSound.paintEnded (h : s.QueueSound) (hjob : ∀ j, ¬ s.ptr.painter.Clears j) (k : Nat) (string : List Byte) :
    (s.paintEnded k string).QueueSound := by
  have painted := s.updSlot_sameQueue k (f := fun r => { r with image := some string }) rfl
  exact ((painted.queueSound h).setPainter (painter := .idle) (fun j hj => absurd hj (hjob j))
    (State.jobSound_of_idle rfl)).jobEnded k

/-- The end of a clear job leaves its slot FREE and not queued, and the Painter IDLE (R151). -/
theorem State.OnlySlot.clearEnded (o : s.OnlySlot t k) (h : s.QueueSound) (nodup : t.ptr.queue.Nodup) (hk : k ∉ t.ptr.queue)
    (hjob : ∀ j, s.ptr.painter.Clears j → j = k) : (t.clearEnded k).QueueSound := by
  have slot : (t.emptied k).slot k = Record.empty := (State.emptied_slot k).trans (if_pos rfl)
  have only : s.OnlySlot (t.emptied k) k := {
    slots := fun j hj => by rw [State.emptied_slot, if_neg hj, o.slots j hj]
    panels := o.panels
    queue := o.queue
    clears := fun j hj clears => absurd (hjob j clears) hj }
  rw [State.clearEnded_eq]
  exact (only.queueSound h nodup (State.slotSound_of_empty slot hk) (State.jobSound_of_idle rfl)).jobEnded k

end

end Sys2Proof.Machine
end

section
/-!
PROOFS, the field queue at every command and event (O54): the Painter's takes and grants, the bodies of the commands, and that no
sound state stops.
-/

namespace Sys2Proof.Machine

/-! ## PAINTER_TAKE (R143 to R149) -/

/-- The head of the field queue taken out of it (R143). -/
def State.popped (s : State) (k : Nat) (rest : List Nat) : State :=
  { s.updSlot k (fun r => { r with queued := false }) with ptr := { s.ptr with queue := rest } }

section
variable {s t : State} {k : Nat} {rest : List Nat}

theorem State.popped_slot : (s.popped k rest).slot k = { s.slot k with queued := false } :=
  (s.slot_updSlot k (fun r => { r with queued := false }) k).trans (if_pos rfl)

theorem State.popped_onlySlot (hqueue : s.ptr.queue = k :: rest) : s.OnlySlot (s.popped k rest) k where
  slots := (s.updSlot_onlySlot k fun r => { r with queued := false }).slots
  panels := rfl
  queue j hj := by
    rw [hqueue, List.mem_cons, or_iff_right hj]
    rfl
  clears _ _ := id

/-- A LIVE head of the queue leaves it sound. -/
theorem State.QueueSound.popped (h : s.QueueSound) (hqueue : s.ptr.queue = k :: rest) (hidle : s.ptr.painter = .idle)
    (hlive : (s.slot k).state = .live) : (s.popped k rest).QueueSound := by
  have sound := (State.queueSound_iff.1 h).2.1 k
  obtain ⟨hk, hrest⟩ := List.nodup_cons.1 (hqueue ▸ h.nodup)
  refine (State.popped_onlySlot hqueue).queueSound h hrest ?_ (State.jobSound_of_idle hidle)
  constructor <;> rw [State.popped_slot]
  · exact iff_of_false Bool.false_ne_true hk
  · exact fun hmem => absurd hmem hk
  · exact sound.due
  · exact fun hretiring => SlotState.noConfusion (hlive.symm.trans hretiring)
  · exact sound.housed

/-- A LIVE job has a write for each position of the span, and a string as long (R93, R146). -/
theorem paintWrites_length (s : State) (bank : Bank) (sn : Snapshot) (string : List Byte) (overflow : Bool) (mask : List Nat) :
    (paintWrites s bank sn string overflow mask).length = sn.width := by
  rw [paintWrites, List.length_map, List.length_range]

/-- The take of a LIVE job leaves all that the queue reads and puts a job with writes left in hand. -/
theorem State.takeLive_eq (s : State) (k : Nat) : ∃ u sn bank string ws, s.SameQueue u
    ∧ s.takeLive k = { u with ptr := { u.ptr with painter := .painting k sn bank string ws } }
    ∧ string.length = (s.slot k).width ∧ ws.length = (s.slot k).width := by
  have strings := formatValue_length (s.slot k).current (s.slot k).settings.format (s.slot k).width
  simp only [State.takeLive]
  split
  · exact ⟨_, _, _, _, _, s.updSlot_sameQueue k rfl, rfl, strings, paintWrites_length ..⟩
  · exact ⟨s, _, _, _, _, .refl s, rfl, strings, paintWrites_length ..⟩

theorem State.QueueSound.takeLive (h : s.QueueSound) (hidle : s.ptr.painter = .idle) (hlive : (s.slot k).state = .live)
    (hwidth : 1 ≤ (s.slot k).width) : (s.takeLive k).QueueSound := by
  obtain ⟨u, sn, bank, string, ws, same, htake, hstring, hws⟩ := s.takeLive_eq k
  obtain ⟨_, _, hstate, _, hwidth'⟩ := Record.queueing_eq_iff.1 (same.slot k)
  rw [htake]
  have taken : (u.slot k).state ≠ .free := by
    rw [hstate, hlive]
    nofun
  refine (same.queueSound h).setPainter (fun j hj => ?_) ⟨taken, List.ne_nil_of_length_pos (hws ▸ hwidth),
    hstring.trans hwidth'.symm⟩
  rw [same.ptr, hidle] at hj
  exact absurd hj (Painter.not_idle_clears j)

/-- The take of a clear job keeps the RETIRING slot out of the queue and in hand, or leaves it FREE at once. -/
theorem State.QueueSound.takeClear (h : s.QueueSound) (hqueue : s.ptr.queue = k :: rest) (hidle : s.ptr.painter = .idle)
    (hretiring : (s.slot k).state = .retiring) : ((s.popped k rest).takeClear k).QueueSound := by
  have sound := (State.queueSound_iff.1 h).2.1 k
  have only := State.popped_onlySlot hqueue
  have unclears (j : Nat) : ¬ s.ptr.painter.Clears j := hidle ▸ Painter.not_idle_clears j
  obtain ⟨hk, hrest⟩ := List.nodup_cons.1 (hqueue ▸ h.nodup)
  cases hws : (s.popped k rest).clearWrites k with
  | nil =>
    simp only [State.takeClear, hws]
    exact only.clearEnded h hrest hk fun j hj => absurd hj (unclears j)
  | cons w ws =>
    simp only [State.takeClear, hws]
    have slot : State.slot { s.popped k rest with ptr := { (s.popped k rest).ptr with painter := .clearing k (w :: ws) } } k
        = { s.slot k with queued := false } := State.popped_slot (rest := rest)
    have taken : s.OnlySlot { s.popped k rest with ptr := { (s.popped k rest).ptr with painter := .clearing k (w :: ws) } } k :=
      { only with clears := fun j _ hj => absurd hj (unclears j) }
    refine taken.queueSound h hrest ?_ ⟨?_, ?_, List.cons_ne_nil _ _⟩
    · constructor <;> rw [slot]
      · exact iff_of_false Bool.false_ne_true hk
      · exact fun hmem => absurd hmem hk
      · exact fun hdue => SlotState.noConfusion (hretiring.symm.trans (sound.due hdue).1)
      · exact fun _ => .inr ⟨_, rfl⟩
      · exact fun hlive => SlotState.noConfusion (hretiring.symm.trans hlive)
    · rw [slot]
      exact hretiring
    · rw [slot]

theorem State.Sound.execPainterTake_queueSound (h : s.Sound) : Step.Leads State.QueueSound (Machine.execPainterTake s) := by
  unfold Machine.execPainterTake
  split
  · next k rest hqueue =>
    split
    · next hgo =>
      have hidle : s.ptr.painter = .idle := by simpa using (Bool.and_eq_true_iff.1 hgo).2
      split
      · next hlive =>
        have slot := s.popped_slot (k := k) (rest := rest)
        have hwidth := ((h.records k).placed (by rw [hlive]; nofun)).2.2.1
        exact (h.queue.popped hqueue hidle hlive).takeLive hidle (slot ▸ hlive) (slot ▸ hwidth)
      · next hretiring => exact h.queue.takeClear hqueue hidle hretiring
      · trivial
    · exact h.queue
  · exact h.queue

/-! ## Grants (R121, R147 to R151, R176) -/

theorem State.QueueSound.execPaintWriteGrant (h : s.QueueSound) : Step.Leads State.QueueSound (execPaintWriteGrant s) := by
  unfold Machine.execPaintWriteGrant
  split
  · next k sn bank string w ws hpainter =>
    split
    · have same := (s.paintWrite_written k w .ptr).sameQueue
      have painter : ((s.paintWrite k w).setMark .ptr).ptr.painter = .painting k sn bank string (w :: ws) :=
        same.ptr ▸ hpainter
      have unclears (j : Nat) : ¬ ((s.paintWrite k w).setMark .ptr).ptr.painter.Clears j := by rw [painter]; nofun
      have sound := same.queueSound h
      obtain ⟨hstate, _, hstring⟩ := sound.painting _ _ _ _ _ painter
      dsimp only
      split
      · exact sound.paintEnded unclears k string
      · next hmore =>
        exact sound.setPainter (fun j hj => absurd hj (unclears j)) ⟨hstate, fun hnil => hmore (hnil ▸ rfl), hstring⟩
    · exact h
  · exact h

theorem State.QueueSound.execClearWriteGrant (h : s.QueueSound) : Step.Leads State.QueueSound (execClearWriteGrant s) := by
  unfold Machine.execClearWriteGrant
  split
  · next k w ws hpainter =>
    split
    · have same := (s.clearWrite_written k w .ptr).sameQueue
      have painter : ((s.clearWrite k w).setMark .ptr).ptr.painter = .clearing k (w :: ws) := same.ptr ▸ hpainter
      have clears (j : Nat) (hj : ((s.clearWrite k w).setMark .ptr).ptr.painter.Clears j) : j = k := by
        rw [painter] at hj
        exact hj.eq_slot
      have sound := same.queueSound h
      obtain ⟨hstate, hqueued, _⟩ := sound.clearing _ _ painter
      dsimp only
      split
      · refine ((State.SameQueue.refl _).onlySlot k).clearEnded sound sound.nodup (fun hmem => ?_) clears
        simp [(sound.flag k).2 hmem] at hqueued
      · next hmore =>
        refine sound.setPainter (fun j hj => ?_) ⟨hstate, hqueued, fun hnil => hmore (hnil ▸ rfl)⟩
        rw [clears j hj]
        exact ⟨ws, rfl⟩
    · exact h
  · exact h

theorem State.QueueSound.execTextWriteGrant (h : s.QueueSound) : Step.Leads State.QueueSound (execTextWriteGrant s) := by
  unfold Machine.execTextWriteGrant
  split
  · next m w ws _ =>
    split
    · have written := (s.textWrite_written w .mdc).sameQueue.queueSound h
      dsimp only
      split
      · exact (State.endExecution_linkOnly _ m.code .ok []).sameQueue.queueSound written
      · exact { written with }
    · exact h
  · exact h

/-- The record that has been vacated, and those after it, are LIVE (R121). -/
theorem State.QueueSound.execVacateWriteGrant (h : s.QueueSound) (claims : s.ClaimsSound) :
    Step.Leads State.QueueSound (execVacateWriteGrant s) := by
  unfold Machine.execVacateWriteGrant
  split
  · next m p cleared k w ws rest hmdc =>
    obtain ⟨_, _, _, _, _, hrecords⟩ := claims.moving m p cleared k (w :: ws) rest hmdc
    split
    · have same : s.SameQueue ((s.vacate k w).setMark .mdc) := (s.clearWrite_written k w .mdc).sameQueue
      have written := same.queueSound h
      have live (j : Nat) (hj : j ∈ k :: rest) : ((s.vacate k w).setMark .mdc).isLive j = true :=
        (same.isLive j).trans (hrecords j hj).1
      dsimp only
      split
      · exact (written.reclaim (live k (List.mem_cons_self ..))).moveNext m p cleared fun j hj =>
          (State.reclaim_isLive _ k j).trans (live j (List.mem_cons_of_mem _ hj))
      · exact { written with }
    · exact h
  · exact h

/-! ## Frames and the sweep -/

theorem State.QueueSound.execFrameStart (h : s.QueueSound) : Step.Leads State.QueueSound (execFrameStart s) := by
  unfold Machine.execFrameStart
  split
  · exact h
  · unfold State.oweSweep
    split <;> exact { h with }

theorem State.QueueSound.execRowRead (h : s.QueueSound) : Step.Leads State.QueueSound (execRowRead s) := by
  unfold Machine.execRowRead
  split
  · split
    · exact { h with }
    · exact h
  · exact h

/-- The records whose highlights end at the sweep are LIVE (R63, R165). -/
theorem State.QueueSound.execSweep (h : s.QueueSound) (records : ∀ k, (s.slot k).Sound) :
    Step.Leads State.QueueSound (execSweep s) := by
  unfold Machine.execSweep
  split
  · refine s.ageAll_sameQueue.joined h fun k hk => ?_
    simp only [State.sweepEnds, List.mem_filter, Bool.and_eq_true, decide_eq_true_eq] at hk
    by_contra hlive
    have hage := (records k).aged (mt (s.isLive_iff k).2 hlive)
    omega
  · exact h

/-! ## Commands -/

theorem startWriting_queueSound (h : s.QueueSound) (m : Message) (ws : List CellWrite) :
    (startWriting m ws s).Leads State.QueueSound := by
  cases ws with
  | nil => exact h
  | cons w ws => exact { h with }

/-- The body of a command keeps the field queue sound: whatever it makes due is LIVE. -/
theorem Command.body_queueSound (h : s.QueueSound) (fields : s.FieldsSound) (inRange : s.InRange) (hagu : s.agu.InRange)
    (c : Command) (m : Message) : (c.body m s).Leads State.QueueSound := by
  have mirror {instrument : Nat} {kind : Kind} (k : Nat) (hk : k ∈ s.mirrors instrument kind) : s.isLive k = true :=
    (fields.chains.mem_mirrors.1 hk).1
  cases c with
  | bind =>
    simp only [Command.body, bindBody]
    rcases bindCheck_cases m.params s with ⟨r, _, hcheck⟩ | ⟨_, b, hcheck, accepted⟩ <;> rw [hcheck]
    · trivial
    · exact h.bindApply accepted
  | amend =>
    simp only [Command.body, amendBody]
    cases hcheck : amendCheck m.params s with
    | error r => trivial
    | ok settings =>
      have same : s.SameQueue ((s.updSlot (u16 m.params 0) fun r => { r with settings := settings }).evaluateBand
          (u16 m.params 0)) := (s.updSlot_sameQueue _ rfl).trans (State.evaluateBand_sameQueue _ _)
      exact (same.queueSound h).becomeDue ((same.isLive _).trans (amendCheck_ok hcheck).1)
  | retire =>
    refine .check fun _ => ?_
    split
    · next live => exact h.retire live
    · trivial
  | lookup =>
    refine .check fun _ => ?_
    split
    · trivial
    · split
      · trivial
      · exact h
  | probe =>
    refine .check fun _ => ?_
    split <;> exact h
  | tick =>
    refine .check fun _ => ?_
    split
    · trivial
    · refine .check fun htick => (evaluateTick_sameQueue ⟨s, [], 0⟩ _ _ _).joined h fun k hk => ?_
      exact ((TickAcc.Keeps.evaluateTick (a := ⟨s, [], 0⟩) fields hagu _ (Bool.not_not_eq.1 (by simpa using htick))
        (s32_range _ _).2).due k hk).resolve_left List.not_mem_nil
  | qtick =>
    refine .check fun _ => .check fun _ => .check fun hcount =>
      (evaluateTicks_sameQueue _ _ ⟨s, [], 0⟩ _).joined h fun k hk => ?_
    exact ((TickAcc.Keeps.evaluateTicks (a := ⟨s, [], 0⟩) _ _ (fun x hx => mem_qtickValues hx hcount) fields hagu []).due k
      hk).resolve_left List.not_mem_nil
  | refer =>
    exact .check fun _ => .check fun _ =>
      (State.SameQueue.foldl (fun t k => t.referSlot_sameQueue k _) _ s).joined h mirror
  | extremesClear =>
    refine .check fun _ => (State.SameQueue.foldl (fun t k => t.restartSlot_sameQueue k _) _ s).joined h fun k hk => ?_
    exact (List.mem_append.1 hk).elim (mirror k) (mirror k)
  | stale =>
    refine .check fun _ => (State.SameQueue.foldl (fun t k => t.updSlot_sameQueue k rfl) _ s).joined h fun k hk => ?_
    obtain ⟨kind, _, hk⟩ := List.mem_flatMap.1 hk
    exact mirror k hk
  | alerts => exact .check fun _ => { h with }
  | panelOpen =>
    refine .check fun _ => .check fun _ => .check fun _ => .check fun _ => ?_
    split
    · trivial
    · exact .check fun _ => .check fun hclosed => h.openPanel (Option.not_isSome_iff_eq_none.1 hclosed) _
  | panelClose => exact .check fun _ => .check fun _ => h.panelClose inRange _
  | panelFreeze =>
    refine .check fun _ => ?_
    split
    · trivial
    · next e he => exact h.panelFreeze inRange he
  | panelThaw =>
    refine .check fun _ => ?_
    split
    · trivial
    · next e he => exact h.panelThaw inRange he
  | panelMove =>
    rcases panelMoveBody_cases m s with ⟨r, hbody⟩ | ⟨p, e, page, row, col, hpanel, _, _, _, _, _, hbody⟩
    · rw [show Command.panelMove.body m s = _ from hbody]
      trivial
    · rw [show Command.panelMove.body m s = _ from hbody]
      exact h.panelMove m hpanel page row col
  | attrSet => exact .check fun _ => .check fun _ => .check fun _ => .check fun _ => { h with }
  | schemeSet =>
    simp only [Command.body, schemeSetBody]
    split
    · trivial
    · refine .check fun _ => .check fun _ => (s.setScheme_sameQueue _ _ _).joined h fun k hk => ?_
      simp only [State.bankRecords, List.mem_filter, Bool.and_eq_true] at hk
      exact hk.2.1
  | schemeSwap =>
    have swapped : s.SameQueue s.swapBanks := .of_slots rfl rfl rfl
    exact swapped.joined h fun k hk => (List.mem_filter.1 hk).2
  | text =>
    simp only [Command.body, textBody]
    split
    · trivial
    · exact .check fun _ => .check fun _ => startWriting_queueSound h m _
  | fill =>
    simp only [Command.body, fillBody]
    split
    · trivial
    · exact .check fun _ => .check fun _ => .check fun _ => startWriting_queueSound h m _
  | showPage => exact .check fun _ => { h with }
  | pattern => exact .check fun _ => { h with }
  | glyphLoad => exact .check fun _ => { h with }
  | status => exact { h with }
  | config => exact .check fun _ => { h with }
  | sync =>
    simp only [Command.body, syncBody]
    split
    · exact h
    · exact { h with }

theorem State.Sound.command_queueSound (h : s.Sound) (c : Command) : Step.Leads State.QueueSound (exec c.instr s) := by
  rw [exec_instr]
  refine runCommand_keeps h.queue (fun _ => { h.queue with }) (fun u code r data hu => ?_) fun m reply _ _ => ?_
  · exact (u.endExecution_linkOnly code r data).sameQueue.queueSound hu
  · have taken : s.KeepsFields (s.taken reply) := h.fields.of_same rfl (.refl _)
    exact Command.body_queueSound (s := s.taken reply) { h.queue with } taken.sound { h.inRange with } h.agu_inRange c m

/-! ## Every command and event -/

/-- Power-on reset leaves the field queue empty and no slot that would have to be in it (R192). -/
theorem State.reset_queueSound (pending : List Instr) : ({ State.reset with pending := pending } : State).QueueSound :=
  State.queueSound_iff.2
    ⟨List.nodup_nil, fun _ => State.slotSound_of_empty rfl List.not_mem_nil, State.jobSound_of_idle rfl⟩

theorem State.Sound.exec_queueSound (h : s.Sound) (i : Instr) : Step.Leads State.QueueSound (exec i s) := by
  have command {c : Command} (hc : c.instr = i) : Step.Leads State.QueueSound (exec i s) := hc ▸ h.command_queueSound c
  have link (hi : linkEvent i = true) : Step.Leads State.QueueSound (exec i s) :=
    (exec_linkOnly hi s).mono fun _ linkOnly => linkOnly.sameQueue.queueSound h.queue
  cases i with
  | powerOnReset => exact State.reset_queueSound s.pending
  | bind => exact command (c := .bind) rfl
  | amend => exact command (c := .amend) rfl
  | retire => exact command (c := .retire) rfl
  | lookup => exact command (c := .lookup) rfl
  | probe => exact command (c := .probe) rfl
  | tick => exact command (c := .tick) rfl
  | qtick => exact command (c := .qtick) rfl
  | refer => exact command (c := .refer) rfl
  | extremesClear => exact command (c := .extremesClear) rfl
  | stale => exact command (c := .stale) rfl
  | alerts => exact command (c := .alerts) rfl
  | panelOpen => exact command (c := .panelOpen) rfl
  | panelClose => exact command (c := .panelClose) rfl
  | panelFreeze => exact command (c := .panelFreeze) rfl
  | panelThaw => exact command (c := .panelThaw) rfl
  | panelMove => exact command (c := .panelMove) rfl
  | attrSet => exact command (c := .attrSet) rfl
  | schemeSet => exact command (c := .schemeSet) rfl
  | schemeSwap => exact command (c := .schemeSwap) rfl
  | text => exact command (c := .text) rfl
  | fill => exact command (c := .fill) rfl
  | showPage => exact command (c := .showPage) rfl
  | pattern => exact command (c := .pattern) rfl
  | glyphLoad => exact command (c := .glyphLoad) rfl
  | status => exact command (c := .status) rfl
  | config => exact command (c := .config) rfl
  | sync => exact command (c := .sync) rfl
  | vacateWriteGrant => exact h.queue.execVacateWriteGrant h.claims
  | textWriteGrant => exact h.queue.execTextWriteGrant
  | painterTake => exact h.execPainterTake_queueSound
  | paintWriteGrant => exact h.queue.execPaintWriteGrant
  | clearWriteGrant => exact h.queue.execClearWriteGrant
  | frameStart => exact h.queue.execFrameStart
  | rowRead => exact h.queue.execRowRead
  | sweep => exact h.queue.execSweep h.records
  | _ => exact link rfl

/-! ## No sound state stops -/

/-- A step that goes on to a state, neither stopped nor refused. -/
def Step.GoesOn (r : Step) : Prop := ∃ t, r = .next t

theorem Step.GoesOn.next (t : State) : Step.GoesOn (.next t) := ⟨t, rfl⟩

theorem Step.GoesOn.ite {r r' : Step} (c : Prop) [Decidable c] (h : r.GoesOn) (h' : r'.GoesOn) :
    Step.GoesOn (if c then r else r') := by
  split
  · exact h
  · exact h'

/-- The Painter finds no FREE slot at the head of a sound queue (R139, R144). -/
theorem State.QueueSound.execPainterTake_goesOn (h : s.QueueSound) : Step.GoesOn (execPainterTake s) := by
  unfold Machine.execPainterTake
  split
  · next k rest hqueue =>
    refine .ite _ ?_ (.next _)
    split
    · exact .next _
    · exact .next _
    · next hfree =>
      rcases h.members k (hqueue ▸ List.mem_cons_self ..) with hstate | ⟨hstate, _⟩ <;> cases hfree.symm.trans hstate
  · exact .next _

/-- Every command and event but the Painter's take goes on from any state. -/
theorem exec_goesOn {i : Instr} (hi : i ≠ .painterTake) (s : State) : Step.GoesOn (exec i s) := by
  cases i with
  | painterTake => exact absurd rfl hi
  | resetRelease | addressCharacter | dataCharacter | breakEvent | replyCutShort | frameStart | sweep =>
    exact .ite _ (.next _) (.next _)
  | assemblerTake | discardNoticeTake | unknownCommand | replyEnd | rowRead =>
    simp only [exec, execAssemblerTake, execDiscardNoticeTake, execUnknownCommand, execReplyEnd, execRowRead]
    split
    · exact .ite _ (.next _) (.next _)
    · exact .next _
  | replyStart | vacateWriteGrant | textWriteGrant | paintWriteGrant | clearWriteGrant =>
    simp only [exec, execReplyStart, execVacateWriteGrant, execTextWriteGrant, execPaintWriteGrant, execClearWriteGrant]
    split
    · exact .ite _ (.ite _ (.next _) (.next _)) (.next _)
    · exact .next _
  | _ => exact .next _

theorem State.QueueSound.exec_goesOn (h : s.QueueSound) (i : Instr) : Step.GoesOn (exec i s) := by
  by_cases hi : i = .painterTake
  · exact hi ▸ h.execPainterTake_goesOn
  · exact Machine.exec_goesOn hi s

end

/-- Settles O54: a step carries out one command or event, which goes on and keeps the field queue sound. -/
theorem queueStaysSound : Obligations.QueueStaysSound := by
  intro s h
  unfold step
  split
  · exact ⟨s, rfl, h.queue⟩
  · next i rest _ =>
    have sound := h.of_pending rest
    obtain ⟨t, ht⟩ := sound.queue.exec_goesOn i
    exact ⟨t, ht, (sound.exec_queueSound i).next ht⟩

end Sys2Proof.Machine
end

section
/-!
PROOFS, attributes and schemes (R125, R136, R137): the checks in order, the entries or the banks they leave,
and the group of records that a bank command makes due.
-/

namespace Sys2Proof.Machine

/-! ## ATTR_SET (R125) -/

/-- The checks of ATTR_SET in the order of R125. -/
def attrSetChecks (p : List Byte) : List (Bool × Result) :=
  [(63 < u8 p 0, .badArg), (15 < u8 p 1, .badArg), (15 < u8 p 2, .badArg), (15 < u8 p 3, .badArg)]

/-- The entry that ATTR_SET's bytes spell (R125). -/
def attrOf (p : List Byte) : Attr :=
  { foreground := (p.getD 1 0).setWidth 4, background := (p.getD 2 0).setWidth 4, bold := (p.getD 3 0).getLsbD 0
    underline := (p.getD 3 0).getLsbD 1, reverse := (p.getD 3 0).getLsbD 2, blink := (p.getD 3 0).getLsbD 3 }

/-- One entry of Table 7-1 replaced, its index and contents given (R125). -/
def State.setAttr (s : State) (i : Nat) (a : Attr) : State :=
  { s with atu := { s.atu with attrs := Table.set Attr.initial s.atu.attrs i a } }

theorem State.attr_setAttr (s : State) (i : Nat) (a : Attr) (j : Nat) :
    (s.setAttr i a).attr j = if j = i then a else s.attr j := Table.get_set ..

/-- A colour number is the low nibble of its byte. -/
theorem ofNat_u8 (p : List Byte) (i : Nat) : BitVec.ofNat 4 (u8 p i) = (p.getD i 0).setWidth 4 := BitVec.ofNat_toNat 4 _

theorem attrSetBody_eq (m : Message) (s : State) : attrSetBody m s =
    (Verdict.done (s.setAttr (u8 m.params 0) (attrOf m.params)) []).afterChecks (attrSetChecks m.params) := by
  simp only [attrSetBody, attrSetChecks, Verdict.afterChecks_cons, Verdict.afterChecks_nil, decide_eq_true_eq, ofNat_u8]
  rfl

/-- Settles O37: the checks in their order, then the entry replaced. -/
theorem attrSetReplacesEntry : Obligations.AttrSetReplacesEntry := by
  intro s i fore back style reply ready m checks
  have body := attrSetBody_eq m (s.taken reply)
  exact ⟨fun r hr => exec_refused_by_check (c := .attrSet) ready rfl body hr, fun hnone => ⟨_,
    exec_done_after_checks (c := .attrSet) ready rfl body hnone rfl, (s.taken reply).attr_setAttr i.toNat _, rfl⟩⟩

/-! ## SCHEME_SET and SCHEME_SWAP (R136, R137) -/

/-- A group named slot by slot joins the field queue in ascending order (R141). -/
theorem State.queueWith_filter (s : State) (named : Nat → Bool) :
    s.queueWith (allSlots.filter named) = s.ptr.queue ++ allSlots.filter (fun k => named k && s.joins k) := by
  rw [State.queueWith, ascending, List.filter_filter]
  refine congrArg _ (List.filter_congr fun k hk => ?_)
  rw [Bool.and_comm, Bool.eq_iff_iff.2 (List.contains_iff_mem.trans (List.mem_filter.trans (and_iff_right hk)))]

/-- The records that a predicate names become due as one group after a change that leaves the records, the panels and the queue. -/
theorem State.joinGroup_filter {s t : State} (hftb : t.ftb = s.ftb) (hpanels : t.panels = s.panels) (hptr : t.ptr = s.ptr)
    (named : Nat → Bool) :
    let u := t.joinGroup (allSlots.filter named)
    (∀ k, u.slot k = if named k then s.madeDue k (s.slot k) else s.slot k)
    ∧ u = { t with
        ftb := { s.ftb with slots := u.ftb.slots }
        ptr := { s.ptr with queue := s.ptr.queue ++ allSlots.filter (fun k => named k && s.joins k) } } := by
  have slot (k : Nat) : t.slot k = s.slot k := State.slot_of_slots (congrArg Ftb.slots hftb) k
  obtain ⟨joined, frame⟩ := State.SameStanding.joined ⟨fun k => congrArg _ (slot k), hpanels⟩ hptr (allSlots.filter named)
  rw [s.queueWith_filter, hftb] at frame
  refine ⟨fun k => ?_, frame⟩
  rw [joined, slot]
  by_cases hk : k < 1024
  · simp [allSlots, hk]
  · simp [allSlots, hk, State.madeDue_of_ge (Nat.le_of_not_lt hk)]

theorem State.scheme_of_atu {s t : State} (h : t.atu = s.atu) (bank : Bank) (condition : Nat) :
    t.scheme bank condition = s.scheme bank condition := by
  simp only [State.scheme, h]

/-- One condition of one bank set, nothing else changed. -/
theorem State.setScheme_frame (s : State) (bank : Bank) (condition index : Nat) : s.setScheme bank condition index = { s with
    atu := { s.atu with
      bankA := (s.setScheme bank condition index).atu.bankA, bankB := (s.setScheme bank condition index).atu.bankB } } := by
  cases bank <;> rfl

theorem State.panelNames_eq (s : State) (p : Nat) (bank : Bank) :
    s.panelNames p bank = (s.panel p).any (fun e => e.bank == bank) := by
  unfold State.panelNames
  cases s.panel p <;> rfl

/-- The LIVE records whose panel names a bank, by a predicate on slots (R136). -/
theorem State.bankRecords_eq (s : State) (bank : Bank) : s.bankRecords bank =
    allSlots.filter (fun k => s.isLive k && (s.panel (s.slot k).panel).any (fun e => e.bank == bank)) := by
  simp only [State.bankRecords, State.panelNames_eq]

/-- The checks of SCHEME_SET in the order of R136. -/
def schemeSetChecks (p : List Byte) : List (Bool × Result) :=
  [(1 < u8 p 0, .badArg), (15 < u8 p 1, .badArg), (63 < u8 p 2, .badArg)]

/-- One condition of one bank set, and the records of its panels made due (R136). -/
def State.schemeSet (s : State) (bank : Bank) (condition index : Nat) : State :=
  (s.setScheme bank condition index).joinGroup (s.bankRecords bank)

theorem schemeSetBody_eq (m : Message) (s : State) : schemeSetBody m s =
    (Verdict.done (s.schemeSet (if u8 m.params 0 = 0 then .a else .b) (u8 m.params 1) (u8 m.params 2)) []).afterChecks
      (schemeSetChecks m.params) := by
  simp only [schemeSetBody, schemeSetChecks, Verdict.afterChecks_cons, Verdict.afterChecks_nil, decide_eq_true_eq,
    Bank.ofNumber_eq]
  by_cases hbank : 1 < u8 m.params 0
  · simp only [if_pos hbank]
  · simp only [if_neg hbank]
    rfl

/-- What SCHEME_SET leaves of the banks, the records and the queue (R136). -/
theorem State.schemeSet_spec (s : State) (bank : Bank) (condition index : Nat) :
    let named := fun k => s.isLive k && (s.panel (s.slot k).panel).any (fun e => e.bank == bank)
    let t := s.schemeSet bank condition index
    (∀ bk c, t.scheme bk c = if bk = bank ∧ c = condition then index else s.scheme bk c)
    ∧ (∀ k, t.slot k = if named k then s.madeDue k (s.slot k) else s.slot k)
    ∧ t = { s with
        atu := { s.atu with bankA := t.atu.bankA, bankB := t.atu.bankB }
        ftb := { s.ftb with slots := t.ftb.slots }
        ptr := { s.ptr with queue := s.ptr.queue ++ allSlots.filter (fun k => named k && s.joins k) } } := by
  intro named t
  have set := s.setScheme_frame bank condition index
  have scheme := s.scheme_setScheme bank condition index
  have ht : t = (s.setScheme bank condition index).joinGroup (allSlots.filter named) := by rw [← s.bankRecords_eq]; rfl
  clear_value t
  generalize s.setScheme bank condition index = u at set scheme ht
  obtain ⟨slots, frame⟩ := State.joinGroup_filter (s := s) (t := u) (by rw [set]) (by rw [set]) (by rw [set]) named
  rw [← ht] at slots frame
  have hatu : t.atu = u.atu := by rw [frame]
  refine ⟨fun bk c => ?_, slots, ?_⟩
  · rw [State.scheme_of_atu hatu, scheme]
  · rw [hatu, frame, set]

/-- The banks exchanged, and every LIVE record made due (R137). -/
def State.schemeSwap (s : State) : State := s.swapBanks.joinGroup s.liveRecords

theorem schemeSwapBody_eq (m : Message) (s : State) : schemeSwapBody m s = .done s.schemeSwap [] := rfl

/-- What SCHEME_SWAP leaves of the banks, the records and the queue (R137). -/
theorem State.schemeSwap_spec (s : State) :
    let t := s.schemeSwap
    (∀ k, t.slot k = if s.isLive k then s.madeDue k (s.slot k) else s.slot k)
    ∧ t = { s with
        atu := { s.atu with bankA := s.atu.bankB, bankB := s.atu.bankA }
        ftb := { s.ftb with slots := t.ftb.slots }
        ptr := { s.ptr with queue := s.ptr.queue ++ allSlots.filter (fun k => s.isLive k && s.joins k) } } := by
  intro t
  have ht : t = s.swapBanks.joinGroup (allSlots.filter s.isLive) := rfl
  clear_value t
  obtain ⟨slots, frame⟩ := State.joinGroup_filter (s := s) (t := s.swapBanks) rfl rfl rfl s.isLive
  rw [← ht] at slots frame
  exact ⟨slots, frame⟩

/-- Settles O38: SCHEME_SET's checks in their order, then what the two commands leave. -/
theorem schemeCommandsMakeDue : Obligations.SchemeCommandsMakeDue := by
  constructor
  · intro s bankByte condition index reply ready m bank named checks
    have hbank : (if u8 m.params 0 = 0 then Bank.a else .b) = bank := if_congr (BitVec.toNat_eq (y := 0)).symm rfl rfl
    have body : schemeSetBody m (s.taken reply) =
        (Verdict.done ((s.taken reply).schemeSet bank condition.toNat index.toNat) []).afterChecks checks := by
      rw [schemeSetBody_eq, hbank]
      rfl
    obtain ⟨scheme, slots, frame⟩ := (s.taken reply).schemeSet_spec bank condition.toNat index.toNat
    generalize (s.taken reply).schemeSet bank condition.toNat index.toNat = t at body scheme slots frame
    exact ⟨fun r hr => exec_refused_by_check (c := .schemeSet) ready rfl body hr, fun hnone => ⟨t,
      exec_done_after_checks (c := .schemeSet) ready rfl body hnone (by rw [frame]), scheme, slots, frame⟩⟩
  · intro s reply ready
    obtain ⟨slots, frame⟩ := (s.taken reply).schemeSwap_spec
    exact ⟨_, exec_done (c := .schemeSwap) ready rfl (schemeSwapBody_eq ⟨0x42, []⟩ _) (by rw [frame]), slots, frame⟩

end Sys2Proof.Machine
end

section
/-!
PROOFS, the Painter's take (R128, R129, R132 to R134, R143 to R146, R149, R151): the condition of each position, the flash mask formed,
and what the take of a LIVE and of a RETIRING slot leaves.
-/

namespace Sys2Proof.Machine

/-! ## Conditions and flash masks (R129, R131 to R134) -/

/-- The condition chosen on a record's snapshot has the number that Table 7-3 gives for the record (R129, R131). -/
theorem conditionAt_number (r : Record) (overflow : Bool) (mask : List Nat) (i : Nat) :
    (conditionAt r.snapshot overflow mask i).number = chosenCondition r overflow mask i := by
  simp only [conditionAt, chosenCondition, Record.snapshot, List.contains_iff_mem, Option.isNone_iff_eq_none,
    apply_ite Condition.number]
  cases r.direction <;> rfl

/-- With no painted image, DIGITS forms the whole mask (R134). -/
theorem mem_digitsMask_none {w i : Nat} {string : List Byte} {overflow absent : Bool} :
    i ∈ digitsMask w string overflow absent none ↔ i < w := List.mem_range

/-- The positions of the mask that DIGITS forms against a painted image (R134). -/
theorem mem_digitsMask_some {w i : Nat} {string old : List Byte} {overflow absent : Bool} :
    i ∈ digitsMask w string overflow absent (some old) ↔ i < w ∧ (overflow = true ∨ absent = true
      ∨ (∀ c ∈ old, c = 0x23) ∨ (∀ c ∈ old, c = 0x20) ∨ string.getD i 0 ≠ old.getD i 0) := by
  simp only [digitsMask]
  split
  · next hwhole =>
    simp only [Bool.or_eq_true, List.all_eq_true, beq_iff_eq] at hwhole
    simp only [wholeMask, List.mem_range]
    tauto
  · next hdiffer =>
    simp only [Bool.or_eq_true, List.all_eq_true, beq_iff_eq] at hdiffer
    simp only [List.mem_filter, List.mem_range, bne_iff_ne]
    tauto

/-- The positions of the mask formed for a record (R132 to R134). -/
theorem mem_formedMask (r : Record) (string : List Byte) (overflow : Bool) (i : Nat) :
    i ∈ formedMask r.snapshot string overflow ↔ inNewMask r string overflow i := by
  have snapshot : r.snapshot.highlight = r.highlight ∧ r.snapshot.age = r.age := ⟨rfl, rfl⟩
  rw [formedMask, inNewMask, snapshot.1, snapshot.2]
  by_cases hoff : r.highlight = .off ∨ r.age = 0
  · rw [if_pos hoff]
    simp only [List.not_mem_nil, false_iff]
    tauto
  · rw [if_neg hoff]
    obtain ⟨hhighlight, hage⟩ := not_or.1 hoff
    cases hdigits : r.settings.format.digits with
    | false => simp [Record.snapshot, wholeMask, hdigits, hhighlight, hage]
    | true =>
      cases hold : r.image with
      | none => simp [Record.snapshot, hdigits, hold, mem_digitsMask_none, hhighlight, hage]
      | some old => simp [Record.snapshot, hdigits, hold, mem_digitsMask_some, hhighlight, hage]

/-! ## The take of a LIVE slot (R145, R146) -/

/-- The string that a LIVE job of a record paints, with the overflow indication (R145). -/
def Record.formatted (r : Record) : List Byte × Bool := formatValue r.current r.settings.format r.width

/-- The flash mask a LIVE job of a record uses and leaves in it (R132). -/
def Record.jobMask (r : Record) : List Nat :=
  if r.newValue then formedMask r.snapshot r.formatted.1 r.formatted.2 else r.mask

theorem Record.jobMask_of_new {r : Record} (h : r.newValue = true) :
    r.jobMask = formedMask r.snapshot r.formatted.1 r.formatted.2 := if_pos h

theorem Record.jobMask_of_clear {r : Record} (h : r.newValue = false) : r.jobMask = r.mask := if_neg (by simp [h])

/-- The record with the mask of its job stored and its new-value flag cleared (R132). -/
def Record.masked (r : Record) : Record := { r with mask := r.jobMask, newValue := false }

theorem Record.masked_of_clear {r : Record} (h : r.newValue = false) : r.masked = r := by
  rw [Record.masked, Record.jobMask_of_clear h, ← h]

/-- The job that the take of a LIVE slot puts in hand (R128, R145, R146). -/
def State.liveJob (s : State) (k : Nat) : Painter :=
  let r := s.slot k
  .painting k { r.snapshot with mask := r.jobMask } (s.bankOf r.panel) r.formatted.1
    (paintWrites s (s.bankOf r.panel) r.snapshot r.formatted.1 r.formatted.2 r.jobMask)

/-- The mask formed is stored when the record's new-value flag is set (R132). -/
def State.storeMask (s : State) (k : Nat) : State :=
  if (s.slot k).newValue then s.updSlot k (fun r => { r with mask := (s.slot k).jobMask, newValue := false }) else s

section
variable (s : State) (k : Nat)

theorem State.storeMask_slot (j : Nat) : (s.storeMask k).slot j = if j = k then (s.slot k).masked else s.slot j := by
  unfold State.storeMask
  split
  · exact s.slot_updSlot k _ j
  · next hclear =>
    rw [Record.masked_of_clear (Bool.eq_false_iff.2 hclear)]
    split
    · next hj => rw [hj]
    · rfl

/-- Nothing but the record changes. -/
theorem State.storeMask_frame :
    s.storeMask k = { s with ftb := { s.ftb with slots := (s.storeMask k).ftb.slots } } := by
  unfold State.storeMask
  split <;> rfl

theorem State.takeLive_eq_storeMask : s.takeLive k =
    { s.storeMask k with ptr := { (s.storeMask k).ptr with painter := s.liveJob k } } := rfl

/-- The take of a LIVE slot leaves the mask of the job in the record, the new-value flag clear (R132). -/
theorem State.takeLive_slot (j : Nat) : (s.takeLive k).slot j = if j = k then (s.slot k).masked else s.slot j :=
  s.storeMask_slot k j

/-- Beside the record, the take of a LIVE slot changes the Painter's job alone (R145). -/
theorem State.takeLive_frame : s.takeLive k = { s with
    ftb := { s.ftb with slots := (s.takeLive k).ftb.slots }, ptr := { s.ptr with painter := s.liveJob k } } := by
  have frame := s.storeMask_frame k
  rw [State.takeLive_eq_storeMask]
  generalize s.storeMask k = u at frame ⊢
  rw [frame]

theorem State.bankOf_of_some {p : Nat} {e : Panel} (he : s.panel p = some e) : s.bankOf p = e.bank := by
  simp only [State.bankOf, he]

/-- The write for each position carries the index of the condition that Table 7-3 chooses for it (R128, R129, R146). -/
theorem paintWrites_getElem? (bank : Bank) (r : Record) (string : List Byte) (overflow : Bool) (mask : List Nat) {i : Nat}
    (hi : i < r.width) : (paintWrites s bank r.snapshot string overflow mask)[i]? = some
      { cell := cellNumber r.page r.row (r.col + i), char := string.getD i 0x20
        attr := s.scheme bank (chosenCondition r overflow mask i) } := by
  have hrange : (List.range r.snapshot.width)[i]? = some i := List.getElem?_range hi
  rw [paintWrites, List.getElem?_map, hrange, Option.map_some, conditionAt_number]
  rfl

/-! ## PAINTER_TAKE (R143, R144, R149) -/

variable {s k} {rest : List Nat}

theorem State.popped_slots (j : Nat) :
    (s.popped k rest).slot j = if j = k then { s.slot k with queued := false } else s.slot j :=
  s.slot_updSlot k (fun r => { r with queued := false }) j

/-- The job of a LIVE head of the queue, in the terms of the state before the take. -/
theorem State.popped_liveJob {e : Panel} (he : s.panel (s.slot k).panel = some e) :
    (s.popped k rest).liveJob k = .painting k { (s.slot k).snapshot with mask := (s.slot k).jobMask } e.bank (s.slot k).formatted.1
      (paintWrites s e.bank (s.slot k).snapshot (s.slot k).formatted.1 (s.slot k).formatted.2 (s.slot k).jobMask) := by
  have bank : (s.popped k rest).bankOf (s.slot k).panel = e.bank := s.bankOf_of_some he
  rw [State.liveJob, State.popped_slot, ← bank]
  rfl

/-- An ended clear job, before the SYNC fence, changes its slot, the counts and the Painter alone (R151). -/
theorem State.emptied_frame : s.emptied k = { s with
    ftb := { s.ftb with
      slots := (s.emptied k).ftb.slots, retiringCount := s.ftb.retiringCount - 1, freeCount := s.ftb.freeCount + 1 }
    ptr := { s.ptr with painter := .idle } } := rfl

section
variable (hreset : s.resetLow = false) (hidle : s.ptr.painter = .idle) (hqueue : s.ptr.queue = k :: rest)
include hreset hidle hqueue

theorem execPainterTake_of_live (hlive : (s.slot k).state = .live) :
    execPainterTake s = .next ((s.popped k rest).takeLive k) := by
  simp only [execPainterTake, hqueue, hreset, hidle, hlive, beq_self_eq_true, Bool.not_false, Bool.and_self, if_true]
  rfl

theorem execPainterTake_of_retiring (hretiring : (s.slot k).state = .retiring) :
    execPainterTake s = .next ((s.popped k rest).takeClear k) := by
  simp only [execPainterTake, hqueue, hreset, hidle, hretiring, beq_self_eq_true, Bool.not_false, Bool.and_self, if_true]
  rfl

end

/-- The cells of a slot's span that still name it, which a clear job blanks (R149). -/
def State.heldCells (s : State) (k : Nat) : List Nat := (s.slot k).span.filter (fun c => s.claim c == some k)

theorem State.clearWrites_eq : s.clearWrites k =
    (s.heldCells k).map (fun c => { cell := c, char := 0x20, attr := s.scheme .a 15 }) := rfl

/-- A clear job with no cell to blank ends at its take (R151). -/
theorem State.takeClear_of_none (hnone : s.heldCells k = []) : s.takeClear k = (s.emptied k).jobEnded k := by
  rw [State.takeClear, State.clearWrites_eq, hnone]
  rfl

theorem State.takeClear_of_some (hsome : s.heldCells k ≠ []) :
    s.takeClear k = { s with ptr := { s.ptr with painter := .clearing k (s.clearWrites k) } } := by
  have hwrites : s.clearWrites k ≠ [] := fun hnil => hsome (List.map_eq_nil_iff.1 hnil)
  rw [State.takeClear]
  split
  · next hnil => exact absurd hnil hwrites
  · rfl

theorem State.popped_heldCells : (s.popped k rest).heldCells k = s.heldCells k := by
  rw [State.heldCells, State.popped_slot]
  rfl

end

/-- Settles O46: the slot's state decides the job, then what its take leaves. -/
theorem painterTakesHeadJob : Obligations.PainterTakesHeadJob := by
  intro s k rest hreset hidle hqueue r
  refine ⟨fun hlive e he => ?_, fun hretiring => ?_⟩
  · have take := execPainterTake_of_live hreset hidle hqueue hlive
    have slots := (s.popped k rest).takeLive_slot k
    have frame := (s.popped k rest).takeLive_frame k
    rw [State.popped_slot] at slots
    rw [State.popped_liveJob he] at frame
    refine ⟨(s.popped k rest).takeLive k, { r.snapshot with mask := r.jobMask },
      paintWrites s e.bank r.snapshot r.formatted.1 r.formatted.2 r.jobMask, r.jobMask, take, fun j => ?_,
      Record.jobMask_of_clear, fun hnew i => ?_, rfl, paintWrites_length .., fun i hi => ?_, ?_⟩
    · rw [slots, State.popped_slots]
      split <;> rfl
    · rw [Record.jobMask_of_new hnew]
      exact mem_formedMask r _ _ i
    · exact paintWrites_getElem? s e.bank r _ _ r.jobMask hi
    · exact frame
  · intro held
    have hheld : (s.popped k rest).heldCells k = held := State.popped_heldCells
    have take := execPainterTake_of_retiring hreset hidle hqueue hretiring
    refine ⟨fun hsome => ?_, fun hnone => ?_⟩
    · rw [State.takeClear_of_some (hheld.trans_ne hsome), State.clearWrites_eq, hheld] at take
      exact ⟨_, take, State.popped_slots (s := s) (rest := rest), rfl⟩
    · rw [State.takeClear_of_none (hheld.trans hnone)] at take
      refine ⟨(s.popped k rest).emptied k, take, fun j => ?_, ?_⟩
      · rw [State.emptied_slot, State.popped_slots]
        split <;> rfl
      · exact State.emptied_frame

end Sys2Proof.Machine
end

section
/-!
PROOFS, the Painter's grants, the groups that become due, and SYNC (R140, R141, R147, R148, R150, R151, R155 to R158): what a granted
write of either job leaves, and how the end of a job shrinks the fence of a SYNC.
-/

namespace Sys2Proof.Machine

/-! ## Groups that become due (R140, R141) -/

/-- A group is named in rising slot order, each slot once (R141). -/
theorem ascending_pairwise (due : List Nat) : (ascending due).Pairwise (· < ·) := List.pairwise_lt_range.filter _

/-- Settles O31: the records and the queue that a group leaves, and the order of the group. -/
theorem dueRecordsJoinAsGroup : Obligations.DueRecordsJoinAsGroup := fun s due =>
  ⟨s.joinGroup_slot due, s.joinGroup_frame due, ascending_pairwise due, fun _ => mem_ascending⟩

/-! ## The arbiter's grant to the Painter (R155, R156) -/

/-- A grant to the Painter comes about when MDC has no write pending or the mark names MDC; while MDC's write goes first, nothing
changes (R156). -/
theorem State.grantsPtr_cases {s t : State} {r : Step} (hreset : s.resetLow = false)
    (grant : r = .next (if s.grantsPtr then t else s)) :
    (s.mdcPending = none ∨ s.cst.mark = .mdc → r = .next t) ∧ (s.mdcPending ≠ none → s.cst.mark = .ptr → r = .next s) := by
  have grants : s.grantsPtr = true ↔ s.mdcPending = none ∨ s.cst.mark = .mdc := by simp [State.grantsPtr, hreset]
  refine ⟨fun hgrants => ?_, fun hpending hmark => ?_⟩
  · rwa [if_pos (grants.2 hgrants)] at grant
  · have waits : ¬ (s.mdcPending = none ∨ s.cst.mark = .mdc) := by simp [hpending, hmark]
    rwa [if_neg (mt grants.1 waits)] at grant

/-! ## The writes of a paint job (R147, R148) -/

/-- The string painted stored as the image and the Painter IDLE, before the SYNC fence (R148). -/
def State.imaged (s : State) (k : Nat) (string : List Byte) : State :=
  { s.updSlot k (fun r => { r with image := some string }) with ptr := { s.ptr with painter := .idle } }

theorem State.imaged_slot (s : State) (k : Nat) (string : List Byte) (j : Nat) :
    (s.imaged k string).slot j = if j = k then { s.slot k with image := some string } else s.slot j :=
  s.slot_updSlot k (fun r => { r with image := some string }) j

/-- A granted write of a paint job, `ws` the writes after it, and after the last the job's end before the SYNC fence (R147, R148). -/
def State.paintGranted (s : State) (k : Nat) (sn : Snapshot) (bank : Bank) (string : List Byte) (w : CellWrite)
    (ws : List CellWrite) : State :=
  let t := (s.paintWrite k w).setMark .ptr
  if ws = [] then t.imaged k string else { t with ptr := { t.ptr with painter := .painting k sn bank string ws } }

section
variable (s : State) (k : Nat) (sn : Snapshot) (bank : Bank) (string : List Byte) (w : CellWrite) (ws : List CellWrite)

theorem State.paintWrite_frame (q : Requester) : (s.paintWrite k w).setMark q = { s with
    cst := { cells := ((s.paintWrite k w).setMark q).cst.cells, mark := q } } := by
  unfold State.paintWrite
  split <;> rfl

/-- A paint job and a clear job put their writes into the cells by the same test of the claim (R147, R150). -/
theorem State.paintWrite_cst (q : Requester) : ((s.paintWrite k w).setMark q).cst = (s.released k w q).cst := by
  unfold State.released State.paintWrite State.clearWrite
  split <;> rfl

theorem State.paintGranted_cell (c : Nat) : (s.paintGranted k sn bank string w ws).cell c =
    if c = w.cell ∧ s.claim c = some k then { char := w.char, attr := w.attr } else s.cell c := by
  have cst : (s.paintGranted k sn bank string w ws).cst = (s.released k w .ptr).cst := by
    rw [← State.paintWrite_cst]
    unfold State.paintGranted
    split <;> rfl
  rw [← s.released_cell k w .ptr, State.cell, cst, State.cell]

theorem State.paintGranted_slot (j : Nat) : (s.paintGranted k sn bank string w ws).slot j =
    if j = k ∧ ws = [] then { s.slot k with image := some string } else s.slot j := by
  have slot (i : Nat) : ((s.paintWrite k w).setMark .ptr).slot i = s.slot i :=
    State.slot_of_slots (by rw [State.paintWrite_frame]) i
  unfold State.paintGranted
  split
  · next hlast => simp only [hlast, and_true, State.imaged_slot, slot]
  · next hmore =>
    rw [if_neg fun h => hmore h.2]
    exact slot j

theorem State.paintGranted_frame : s.paintGranted k sn bank string w ws = { s with
    cst := { cells := (s.paintGranted k sn bank string w ws).cst.cells, mark := .ptr }
    ftb := { s.ftb with slots := (s.paintGranted k sn bank string w ws).ftb.slots }
    ptr := { s.ptr with painter := if ws = [] then .idle else .painting k sn bank string ws } } := by
  have frame := s.paintWrite_frame k w .ptr
  unfold State.paintGranted
  generalize (s.paintWrite k w).setMark .ptr = t at frame ⊢
  rw [frame]
  split <;> rfl

variable {s k sn bank string w ws}

theorem execPaintWriteGrant_eq (hjob : s.ptr.painter = .painting k sn bank string (w :: ws)) : execPaintWriteGrant s = .next
    (if s.grantsPtr then
      (if ws = [] then (s.paintGranted k sn bank string w ws).jobEnded k else s.paintGranted k sn bank string w ws)
     else s) := by
  simp only [execPaintWriteGrant, hjob, List.isEmpty_iff, State.paintGranted]
  split
  · split <;> rfl
  · rfl

end

/-! ## The writes of a clear job (R150, R151) -/

/-- A granted write of a clear job, `ws` the writes after it, and after the last the job's end before the SYNC fence (R150, R151). -/
def State.clearGranted (s : State) (k : Nat) (w : CellWrite) (ws : List CellWrite) : State :=
  let t := s.released k w .ptr
  if ws = [] then t.emptied k else { t with ptr := { t.ptr with painter := .clearing k ws } }

section
variable (s : State) (k : Nat) (w : CellWrite) (ws : List CellWrite)

theorem State.clearGranted_cell (c : Nat) : (s.clearGranted k w ws).cell c =
    if c = w.cell ∧ s.claim c = some k then { char := w.char, attr := w.attr } else s.cell c := by
  rw [← s.released_cell k w .ptr]
  unfold State.clearGranted
  split <;> rfl

theorem State.clearGranted_claim (c : Nat) : (s.clearGranted k w ws).claim c =
    if c = w.cell ∧ s.claim c = some k then none else s.claim c := by
  rw [← State.released_claim (q := .ptr)]
  unfold State.clearGranted
  split <;> rfl

theorem State.clearGranted_slot (j : Nat) : (s.clearGranted k w ws).slot j =
    if j = k ∧ ws = [] then Record.empty else s.slot j := by
  have slot (i : Nat) : (s.released k w .ptr).slot i = s.slot i := State.slot_of_slots State.released_frame.1 i
  unfold State.clearGranted
  split
  · next hlast => simp only [hlast, and_true, State.emptied_slot, slot]
  · next hmore =>
    rw [if_neg fun h => hmore h.2]
    exact slot j

theorem State.clearGranted_frame : s.clearGranted k w ws = { s with
    cst := { cells := (s.clearGranted k w ws).cst.cells, mark := .ptr }
    ftb := { s.ftb with
      slots := (s.clearGranted k w ws).ftb.slots, claims := (s.clearGranted k w ws).ftb.claims
      retiringCount := if ws = [] then s.ftb.retiringCount - 1 else s.ftb.retiringCount
      freeCount := if ws = [] then s.ftb.freeCount + 1 else s.ftb.freeCount }
    ptr := { s.ptr with painter := if ws = [] then .idle else .clearing k ws } } := by
  have writes := s.released_writes k w .ptr
  unfold State.clearGranted
  generalize s.released k w .ptr = t at writes ⊢
  rw [writes]
  by_cases hlast : ws = []
  · simp only [if_pos hlast]
    rfl
  · simp only [if_neg hlast]

variable {s k w ws}

theorem execClearWriteGrant_eq (hjob : s.ptr.painter = .clearing k (w :: ws)) : execClearWriteGrant s = .next
    (if s.grantsPtr then (if ws = [] then (s.clearGranted k w ws).jobEnded k else s.clearGranted k w ws) else s) := by
  simp only [execClearWriteGrant, hjob, List.isEmpty_iff, State.clearGranted]
  split
  · split <;> rfl
  · rfl

end

/-- Settles O47: the arbiter decides, then what a granted write leaves. -/
theorem painterWriteGrants : Obligations.PainterWriteGrants := by
  constructor
  · intro s k sn bank string w ws hreset hjob
    obtain ⟨granted, waits⟩ := State.grantsPtr_cases hreset (execPaintWriteGrant_eq hjob)
    exact ⟨fun hgrants => ⟨s.paintGranted k sn bank string w ws, s.paintGranted_cell k sn bank string w ws,
      s.paintGranted_slot k sn bank string w ws, s.paintGranted_frame k sn bank string w ws, granted hgrants⟩, waits⟩
  · intro s k w ws hreset hjob
    obtain ⟨granted, waits⟩ := State.grantsPtr_cases hreset (execClearWriteGrant_eq hjob)
    exact ⟨fun hgrants => ⟨s.clearGranted k w ws, s.clearGranted_cell k w ws, s.clearGranted_claim k w ws,
      s.clearGranted_slot k w ws, s.clearGranted_frame k w ws, granted hgrants⟩, waits⟩

/-! ## SYNC and its fence (R157, R158) -/

theorem State.jobEnded_of_syncing {s : State} {m : Message} {inHand : Bool} {slots : List Nat}
    (hmdc : s.mdc = .syncing m inHand slots) (k : Nat) :
    let left := if inHand then slots else slots.filter (fun j => j ≠ k)
    s.jobEnded k = if left = [] then s.finished m else { s with mdc := .syncing m false left } := by
  have differs : (fun j : Nat => j != k) = fun j => decide (j ≠ k) := funext fun _ => decide_not.symm
  simp only [State.jobEnded, hmdc, List.isEmpty_iff, differs]
  rfl

/-- The end of a job is nothing to MDC unless a SYNC is in execution (R158). -/
theorem State.jobEnded_of_not_syncing {s : State} (hmdc : ∀ m inHand slots, s.mdc ≠ .syncing m inHand slots) (k : Nat) :
    s.jobEnded k = s := by
  unfold State.jobEnded
  split
  · next m inHand slots hsyncing => exact absurd hsyncing (hmdc m inHand slots)
  · rfl

/-- Settles O45: the take by whether the fence is empty, then the end of a job by whether a SYNC is in execution. -/
theorem syncWaitsForFence : Obligations.SyncWaitsForFence := by
  refine ⟨fun s reply ready => ?_, fun s m inHand slots k hmdc => State.jobEnded_of_syncing hmdc k,
    fun s k hmdc => State.jobEnded_of_not_syncing hmdc k⟩
  by_cases hempty : s.ptr.painter = .idle ∧ s.ptr.queue = []
  · rw [if_pos hempty]
    exact exec_done (u := s.taken reply) (c := .sync) ready rfl (if_pos hempty) rfl
  · rw [if_neg hempty, decide_not]
    exact exec_goesOn_after_checks (c := .sync) (checks := []) ready rfl (if_neg hempty) rfl

end Sys2Proof.Machine
end

section
/-!
PROOFS, aging (R164, R165) and the start of a frame (R162, R163, R177 to R181, R183): what a sweep leaves of the records, the field
queue and the debt, when one comes about, and what a frame start takes and owes.
-/

namespace Sys2Proof.Machine

/-! ## One record aged (R165) -/

section
variable {r : Record} {n : Nat}

theorem Record.aged_of_still (h : r.age = 0) : r.aged n = r := if_pos h

theorem Record.aged_of_ending (hrunning : 0 < r.age) (hends : r.age ≤ n) :
    r.aged n = { r with highlight := .off, age := 0, mask := [] } := by
  rw [Record.aged, if_neg hrunning.ne', if_pos hends]

theorem Record.aged_of_running (h : n < r.age) : r.aged n = { r with age := r.age - n } := by
  rw [Record.aged, if_neg (Nat.zero_lt_of_lt h).ne', if_neg (Nat.not_le.2 h)]

end

theorem Record.aged_standing (r : Record) (n : Nat) : (r.aged n).standing = r.standing := by
  obtain ⟨hqueued, _, hstate, hpanel, _⟩ := Record.queueing_eq_iff.1 (r.aged_queueing n)
  exact Record.standing_eq_iff.2 ⟨hqueued, hstate, hpanel⟩

/-! ## Every record aged (R165) -/

/-- The slots whose highlight runs. -/
def State.runningSlots (s : State) : List Nat := allSlots.filter (fun k => 0 < (s.slot k).age)

theorem State.mem_runningSlots {s : State} {k : Nat} : k ∈ s.runningSlots ↔ k < 1024 ∧ 0 < (s.slot k).age := by
  simp [State.runningSlots, allSlots]

theorem State.mem_sweepEnds {s : State} {n k : Nat} :
    k ∈ s.sweepEnds n ↔ k < 1024 ∧ 0 < (s.slot k).age ∧ (s.slot k).age ≤ n := by
  simp [State.sweepEnds, allSlots]

/-- The state once the running highlights are aged, the debt not yet cleared. -/
def State.aged (s : State) : State := s.runningSlots.foldl (fun t k => t.updSlot k (fun r => r.aged s.agu.owed)) s

theorem State.ageAll_eq (s : State) : s.ageAll = { s.aged with agu := { s.aged.agu with owed := 0 } } := by
  simp only [State.ageAll, State.aged, State.runningSlots]

/-- Aging reaches every one of the 1024 records, since it leaves those whose highlight does not run. -/
theorem State.ageAll_slot (s : State) (k : Nat) :
    s.ageAll.slot k = if k < 1024 then (s.slot k).aged s.agu.owed else s.slot k := by
  have ages : s.Changes s.runningSlots (fun _ r => r.aged s.agu.owed) s.aged :=
    State.Changes.foldl (state := fun t => t) (f := fun t k => State.updSlot t k fun r => r.aged s.agu.owed) _
      (List.nodup_range.filter _) (fun t k _ => t.updSlot_changes k _) rfl
  rw [State.slot_of_slots (t := s.ageAll) (s := s.aged) (by rw [s.ageAll_eq]), ages.slot]
  simp only [State.mem_runningSlots]
  by_cases hage : (s.slot k).age = 0
  · simp [hage, Record.aged_of_still hage]
  · simp [Nat.pos_of_ne_zero hage]

theorem State.ageAll_frame (s : State) : s.ageAll = { s with
    ftb := { s.ftb with slots := s.ageAll.ftb.slots }, agu := { s.agu with owed := 0 } } := by
  have frame : s.aged = { s with ftb := { s.ftb with slots := s.aged.ftb.slots } } := by
    unfold State.aged
    exact State.foldl_updSlot_frame _ _ s
  rw [State.ageAll_eq]
  generalize s.aged = t at frame ⊢
  rw [frame]

theorem State.ageAll_sameStanding (s : State) : s.SameStanding s.ageAll where
  slot k := by
    rw [State.ageAll_slot]
    split
    · exact Record.aged_standing _ _
    · rfl
  panels := by rw [State.ageAll_frame]

/-! ## The sweep (R164, R165) -/

/-- The state after a sweep: every running highlight aged, then the records whose highlights ended made due as one group (R165). -/
def State.swept (s : State) : State := s.ageAll.joinGroup (s.sweepEnds s.agu.owed)

/-- What a sweep leaves of a record (R165): no running highlight, one that ends, or one that runs on. -/
theorem State.swept_slot (s : State) (k : Nat) : s.swept.slot k =
    if 1024 ≤ k ∨ (s.slot k).age = 0 then s.slot k
    else if (s.slot k).age ≤ s.agu.owed then s.madeDue k { s.slot k with highlight := .off, age := 0, mask := [] }
    else { s.slot k with age := (s.slot k).age - s.agu.owed } := by
  have joined := (s.ageAll_sameStanding.joined (by rw [s.ageAll_frame]) (s.sweepEnds s.agu.owed)).1 k
  rw [State.swept, joined, State.ageAll_slot]
  simp only [State.mem_sweepEnds]
  by_cases hk : k < 1024
  · rw [if_pos hk]
    rcases Nat.eq_zero_or_pos (s.slot k).age with hstill | hrunning
    · rw [if_neg (by omega), if_pos (.inr hstill), Record.aged_of_still hstill]
    · rw [if_neg (c := 1024 ≤ k ∨ _) (by omega)]
      by_cases hends : (s.slot k).age ≤ s.agu.owed
      · rw [if_pos ⟨hk, hrunning, hends⟩, if_pos hends, Record.aged_of_ending hrunning hends]
      · rw [if_neg (by omega), if_neg hends, Record.aged_of_running (Nat.not_le.1 hends)]
  · rw [if_neg hk, if_neg (by omega), if_pos (.inl (Nat.not_lt.1 hk))]

/-- A sweep changes the records, the field queue and the debt, and nothing else (R165). -/
theorem State.swept_frame (s : State) : s.swept = { s with
    ftb := { s.ftb with slots := s.swept.ftb.slots }, agu := { s.agu with owed := 0 }
    ptr := { s.ptr with queue := s.ptr.queue ++ allSlots.filter (fun k =>
      (0 < (s.slot k).age && (s.slot k).age ≤ s.agu.owed) && s.joins k) } } := by
  have joined := (s.ageAll_sameStanding.joined (by rw [s.ageAll_frame]) (s.sweepEnds s.agu.owed)).2
  rw [State.sweepEnds, State.queueWith_filter, ← State.sweepEnds, ← State.swept, s.ageAll_frame] at joined
  exact joined

theorem State.moving_eq_false_iff (s : State) : s.moving = false ↔ ∀ m p a k ws rest, s.mdc ≠ .moving m p a k ws rest := by
  unfold State.moving
  split
  · next m p a k ws rest hmdc => exact iff_of_false nofun fun h => h m p a k ws rest hmdc
  · next hmdc => exact iff_of_true rfl hmdc

theorem State.sweepDue_iff (s : State) : s.sweepDue = true ↔
    0 < s.agu.owed ∧ (s.ptr.queue.length ≤ s.agu.threshold ∨ s.agu.owed = 8)
    ∧ ∀ m p a k ws rest, s.mdc ≠ .moving m p a k ws rest := by
  simp only [State.sweepDue, Bool.and_eq_true, Bool.or_eq_true, decide_eq_true_eq, Bool.not_eq_true',
    State.moving_eq_false_iff, and_assoc]

theorem execSweep_eq {s : State} (hreset : s.resetLow = false) :
    execSweep s = .next (if s.sweepDue then s.swept else s) := by
  rw [execSweep, hreset]
  cases s.sweepDue <;> rfl

/-- Settles O48: the sweep decision, then the records and the frame of the state after a sweep. -/
theorem sweepAgesHighlights : Obligations.SweepAgesHighlights := by
  intro s hreset n ends wanted
  have hdue : s.sweepDue = true ↔ wanted := s.sweepDue_iff
  have step : exec .sweep s = .next (if s.sweepDue then s.swept else s) := execSweep_eq hreset
  refine ⟨fun hwanted => ⟨s.swept, by rw [step, if_pos (hdue.2 hwanted)], fun k => ?_, s.swept_frame⟩, fun hnot => ?_⟩
  · rw [State.swept_slot]
    by_cases hstill : 1024 ≤ k ∨ (s.slot k).age = 0
    · rw [if_pos hstill, if_pos hstill]
    · have hends : ends k = true ↔ (s.slot k).age ≤ n := by
        simp only [ends, Bool.and_eq_true, decide_eq_true_eq]
        omega
      rw [if_neg hstill, if_neg hstill]
      exact if_congr hends.symm rfl rfl
  · rw [step, if_neg (mt hdue.1 hnot)]

/-! ## The start of a frame (R162, R163, R177 to R181, R183) -/

/-- VSYNC over a line of vertical blanking, in either count of Table 10-6 (log entry 24). -/
theorem vsyncOn_eq (line : Nat) : vsyncOn line =
    if Config.blankingLinesFromOne then decide (1 ≤ line ∧ line ≤ 3) else decide (2 ≤ line ∧ line ≤ 4) := by
  unfold vsyncOn
  cases Config.blankingLinesFromOne
  · rfl
  · simp only [if_true, decide_eq_decide]
    omega

/-- The blink counter starts again from 0 after 31 (R180). -/
theorem blink_advances {b : Nat} (hb : b ≤ 31) : (b + 1) % 32 = if b = 31 then 0 else b + 1 := by
  split <;> omega

/-- A frame start owes one more sweep, or sets AGING_SLIPPED when 8 are owed (R162, R163). -/
theorem State.oweSweep_eq (s : State) : s.oweSweep = { s with
    agu := { s.agu with owed := if s.agu.owed < 8 then s.agu.owed + 1 else s.agu.owed }
    stu := { s.stu with sticky := if s.agu.owed < 8 then s.stu.sticky else s.stu.sticky ||| 0x80 } } := by
  unfold State.oweSweep
  split <;> rfl

/-- Settles O41: a frame start waits for the rows of the frame before; then the lines of vertical blanking, and what DOU, AGU and the
sticky flags hold. -/
theorem frameStartTakesPending : Obligations.FrameStartTakesPending := by
  refine ⟨fun s row hrow hlt => execFrameStart_waits s ?_, fun s hreset hblink hread => ?_⟩
  · rw [(Dou.midFrame_iff _).2 ⟨row, hrow, hlt⟩, Bool.or_true]
  · have hmid : s.dou.midFrame = false := by
      rw [← Bool.not_eq_true, Dou.midFrame_iff]
      exact fun ⟨row, hrow, hlt⟩ => absurd (hread row hrow) (Nat.not_le.2 hlt)
    refine ⟨verticalBlanking, verticalBlanking_length, fun line hline => ⟨blankedLine (vsyncOn line),
      verticalBlanking_line line hline, blankedLine_length _, fun x hx => ?_⟩, ?_⟩
    · rw [blankedLine_period _ x hx, vsyncOn_eq]
      rfl
    · refine (execFrameStart_starts s (by rw [hreset, hmid]; rfl)).trans ?_
      rw [State.oweSweep_eq, Dou.frameStart, blink_advances hblink]
      cases s.dou.pendingPage <;> cases s.dou.pendingPattern <;> rfl

end Sys2Proof.Machine
end

section
/-!
PROOFS, static text (R173 to R175, Table 10-1): the checks of a target in their order, and the cell lists of TEXT and FILL place by
place.
-/

namespace Sys2Proof.Machine

/-! ## Rows of equal length laid end to end -/

/-- Place `j` of row `i`, when every row has `width` places. -/
theorem getElem?_flatMap_of_length {α β : Type} {f : α → List β} {width : Nat} (hwidth : ∀ a, (f a).length = width)
    (rows : List α) (i : Nat) {j : Nat} (hj : j < width) :
    (rows.flatMap f)[i * width + j]? = rows[i]?.bind fun a => (f a)[j]? := by
  induction rows generalizing i with
  | nil => simp
  | cons a rows ih =>
    rw [List.flatMap_cons, List.getElem?_append, hwidth]
    cases i with
    | zero => simp [hj]
    | succ i =>
      have hplace : (i + 1) * width + j = (i * width + j) + width := by rw [Nat.succ_mul, Nat.add_right_comm]
      rw [hplace, if_neg (Nat.not_lt.2 (Nat.le_add_left ..)), Nat.add_sub_cancel, ih, List.getElem?_cons_succ]

theorem length_flatMap_of_length {α β : Type} {f : α → List β} {width : Nat} (hwidth : ∀ a, (f a).length = width)
    (rows : List α) : (rows.flatMap f).length = rows.length * width := by
  simp [List.length_flatMap, hwidth]

/-! ## The target and its checks (R173, Table 10-1) -/

theorem Verdict.afterChecks_append (first rest : List (Bool × Result)) (v : Verdict) :
    v.afterChecks (first ++ rest) = (v.afterChecks rest).afterChecks first := by
  induction first with
  | nil => rfl
  | cons check first ih =>
    obtain ⟨fails, r⟩ := check
    rw [List.cons_append, Verdict.afterChecks_cons, Verdict.afterChecks_cons, ih]

/-- The target named by two bytes, with the checks that come before its use (Table 10-1, checks 1 to 3). -/
theorem textTarget_eq (s : State) (target page : Nat) : textTarget s target page =
    if 31 < target ∧ target ≠ 255 then .error .badArg
    else if target = 255 ∧ 3 < page then .error .badArg
    else if target ≤ 31 ∧ (s.panel target).isNone then .error .noPanel
    else .ok (s.textArea target page) := by
  unfold textTarget State.textArea
  by_cases hwhole : target = 255
  · by_cases hpage : page ≤ 3
    · simp [hwhole, hpage]
    · simp [hwhole, hpage, Nat.lt_of_not_le hpage]
  · by_cases hpanel : 31 < target
    · simp [hwhole, hpanel]
    · cases hentry : s.panel target <;> simp [hwhole, hpanel, Nat.le_of_not_lt hpanel]

/-- A body that writes into a target: the target's checks, then the start position inside the target, then the rest of the body. -/
def Verdict.onTarget (s : State) (target page row col : Nat) (write : TextTarget → Verdict) : Verdict :=
  match textTarget s target page with
  | .error r => .refuse r
  | .ok t => if t.height ≤ row ∨ t.width ≤ col then .refuse .badArg else write t

theorem Verdict.onTarget_eq (s : State) (target page row col : Nat) (write : TextTarget → Verdict) :
    Verdict.onTarget s target page row col write =
      (write (s.textArea target page)).afterChecks (targetChecks s target page row col) := by
  simp only [Verdict.onTarget, targetChecks, Verdict.afterChecks_cons, Verdict.afterChecks_nil, decide_eq_true_eq, textTarget_eq]
  by_cases hpanel : 31 < target ∧ target ≠ 255
  · simp only [if_pos hpanel]
  · by_cases hpage : target = 255 ∧ 3 < page
    · simp only [if_neg hpanel, if_pos hpage]
    · by_cases hclosed : target ≤ 31 ∧ (s.panel target).isNone = true
      · simp only [if_neg hpanel, if_neg hpage, if_pos hclosed]
      · simp only [if_neg hpanel, if_neg hpage, if_neg hclosed]

/-- Checks that a target passes leave the start position inside its area. -/
theorem start_inside_of_targetChecks {s : State} {target page row col : Nat} {rest : List (Bool × Result)}
    (hnone : firstRefusal (targetChecks s target page row col ++ rest) = none) :
    row < (s.textArea target page).height ∧ col < (s.textArea target page).width := by
  have start := (firstRefusal_eq_none_iff _).1 hnone
    (decide ((s.textArea target page).height ≤ row ∨ (s.textArea target page).width ≤ col), .badArg) (by simp [targetChecks])
  simpa using start

theorem startWriting_of_ne_nil {ws : List CellWrite} (h : ws ≠ []) (m : Message) (s : State) :
    startWriting m ws s = .goesOn { s with mdc := .writing m ws } := by
  cases ws with
  | nil => exact absurd rfl h
  | cons w ws => rfl

/-- A command that passes its checks with writes to present goes on with them (R173). -/
theorem exec_startWriting {s : State} {c : Command} {m : Message} {reply : Bool} {checks : List (Bool × Result)} {ws : List CellWrite}
    (ready : s.Ready c m reply) (hlength : c.lengthOk m.params = true)
    (hbody : c.body m (s.taken reply) = (startWriting m ws (s.taken reply)).afterChecks checks)
    (hnone : firstRefusal checks = none) (hws : 1 ≤ ws.length) :
    exec c.instr s = .next { s.taken reply with mdc := .writing m ws } := by
  rw [startWriting_of_ne_nil (List.length_pos_iff.1 hws)] at hbody
  exact exec_goesOn_after_checks ready hlength hbody hnone

/-! ## TEXT (R174) -/

section
variable (t : TextTarget) (r c attr : Nat)

theorem textWrites_length (chars : List Byte) : (textWrites t r c attr chars).length = min chars.length (t.width - c) := by
  simp [textWrites]

theorem textWrites_getElem? {chars : List Byte} {i : Nat} (hi : i < min chars.length (t.width - c)) :
    (textWrites t r c attr chars)[i]? = some { cell := t.cell r (c + i), char := chars.getD i 0, attr := attr } := by
  have hchar : chars.getD i 0x20 = chars.getD i 0 := by
    rw [List.getD_eq_getElem _ _ (by omega), List.getD_eq_getElem _ _ (by omega)]
  rw [textWrites, List.getElem?_map, List.getElem?_range hi, Option.map_some, hchar]

end

/-- The checks of TEXT in the order of Table 10-1. -/
def textChecks (s : State) (p : List Byte) : List (Bool × Result) :=
  targetChecks s (u8 p 0) (u8 p 1) (u8 p 2) (u8 p 3) ++ ([(63 < u8 p 4, .badArg)] : List (Bool × Result))

theorem textBody_eq (m : Message) (s : State) :
    let p := m.params
    textBody m s = (startWriting m (textWrites (s.textArea (u8 p 0) (u8 p 1)) (u8 p 2) (u8 p 3) (u8 p 4) (p.drop 5)) s).afterChecks
      (textChecks s p) := by
  intro p
  rw [textChecks, Verdict.afterChecks_append, Verdict.afterChecks_cons, Verdict.afterChecks_nil]
  simp only [decide_eq_true_eq]
  exact Verdict.onTarget_eq s (u8 p 0) (u8 p 1) (u8 p 2) (u8 p 3) fun t =>
    if 63 < u8 p 4 then .refuse .badArg else startWriting m (textWrites t (u8 p 2) (u8 p 3) (u8 p 4) (p.drop 5)) s

/-! ## FILL (R175) -/

section
variable (t : TextTarget) (r c h w attr : Nat) (char : Byte)

theorem fillWrites_length :
    (fillWrites t r c h w attr char).length = min h (t.height - r) * min w (t.width - c) := by
  rw [fillWrites, length_flatMap_of_length (width := min w (t.width - c)) (fun i => by simp), List.length_range]

theorem fillWrites_getElem? {i j : Nat} (hi : i < min h (t.height - r)) (hj : j < min w (t.width - c)) :
    (fillWrites t r c h w attr char)[i * min w (t.width - c) + j]? =
      some { cell := t.cell (r + i) (c + j), char := char, attr := attr } := by
  rw [fillWrites, getElem?_flatMap_of_length (fun i => by simp) _ _ hj, List.getElem?_range hi, Option.bind_some, List.getElem?_map,
    List.getElem?_range hj, Option.map_some]

end

/-- The checks of FILL in the order of Table 10-1. -/
def fillChecks (s : State) (p : List Byte) : List (Bool × Result) :=
  targetChecks s (u8 p 0) (u8 p 1) (u8 p 2) (u8 p 3)
    ++ ([(u8 p 4 = 0, .badArg), (u8 p 5 = 0, .badArg), (63 < u8 p 7, .badArg)] : List (Bool × Result))

/-- An accepted rectangle is not empty (Table 10-1). -/
theorem size_of_fillChecks {s : State} {p : List Byte} (hnone : firstRefusal (fillChecks s p) = none) :
    1 ≤ u8 p 4 ∧ 1 ≤ u8 p 5 := by
  rw [fillChecks, firstRefusal_append, Option.or_eq_none_iff] at hnone
  have passed := (firstRefusal_eq_none_iff _).1 hnone.2
  simp only [List.forall_mem_cons, decide_eq_false_iff_not] at passed
  omega

theorem fillBody_eq (m : Message) (s : State) :
    let p := m.params
    fillBody m s = (startWriting m
      (fillWrites (s.textArea (u8 p 0) (u8 p 1)) (u8 p 2) (u8 p 3) (u8 p 4) (u8 p 5) (u8 p 7) (p.getD 6 0)) s).afterChecks
      (fillChecks s p) := by
  intro p
  rw [fillChecks, Verdict.afterChecks_append]
  refine (Verdict.onTarget_eq s (u8 p 0) (u8 p 1) (u8 p 2) (u8 p 3) fun t =>
    if u8 p 4 < 1 ∨ u8 p 5 < 1 then .refuse .badArg
    else if 63 < u8 p 7 then .refuse .badArg
    else startWriting m (fillWrites t (u8 p 2) (u8 p 3) (u8 p 4) (u8 p 5) (u8 p 7) (p.getD 6 0)) s).trans (congrArg _ ?_)
  simp only [Verdict.afterChecks_cons, Verdict.afterChecks_nil, decide_eq_true_eq, ite_or, Nat.lt_one_iff]

/-- Settles O39: the checks in their order, then the cell lists, which no clipping leaves empty, place by place. -/
theorem textAndFillListCells : Obligations.TextAndFillListCells := by
  constructor
  · intro s m reply ready hshort hlong p area checks
    have hlength : Command.text.lengthOk m.params = true := by simp [Command.lengthOk, hshort, hlong]
    have body := textBody_eq m (s.taken reply)
    refine ⟨fun r hr => exec_refused_by_check (c := .text) ready hlength body hr, fun hnone => ?_⟩
    obtain ⟨_, hcol⟩ := start_inside_of_targetChecks hnone
    have length := textWrites_length area (u8 p 2) (u8 p 3) (u8 p 4) (p.drop 5)
    have hws : 1 ≤ (textWrites area (u8 p 2) (u8 p 3) (u8 p 4) (p.drop 5)).length := by
      rw [length, List.length_drop]
      exact Nat.le_min.2 ⟨Nat.le_sub_of_add_le hshort, Nat.sub_pos_of_lt hcol⟩
    refine ⟨textWrites area (u8 p 2) (u8 p 3) (u8 p 4) (p.drop 5), exec_startWriting (c := .text) ready hlength body hnone hws, hws,
      by rw [length, List.length_drop], fun i hi => ?_⟩
    rw [textWrites_getElem? area _ _ _ (length ▸ hi), List.getD_eq_getElem?_getD, List.getElem?_drop, ← List.getD_eq_getElem?_getD]
    rfl
  · intro s target page row col height width char attr reply ready m area rows cols checks
    have body := fillBody_eq m (s.taken reply)
    refine ⟨fun r hr => exec_refused_by_check (c := .fill) ready rfl body hr, fun hnone => ?_⟩
    obtain ⟨hrow, hcol⟩ := start_inside_of_targetChecks hnone
    obtain ⟨hheight, hwidth⟩ := size_of_fillChecks (s := s) (p := m.params) hnone
    have length := fillWrites_length area row.toNat col.toNat height.toNat width.toNat attr.toNat char
    have hws : 1 ≤ (fillWrites area row.toNat col.toNat height.toNat width.toNat attr.toNat char).length := by
      rw [length]
      exact Nat.mul_pos (Nat.lt_min.2 ⟨hheight, Nat.sub_pos_of_lt hrow⟩) (Nat.lt_min.2 ⟨hwidth, Nat.sub_pos_of_lt hcol⟩)
    exact ⟨_, exec_startWriting (c := .fill) ready rfl body hnone hws, hws, length,
      fun i j hi hj => fillWrites_getElem? area _ _ _ _ _ _ hi hj⟩

end Sys2Proof.Machine
end

section
/-!
PROOFS, what the display takes and shows (R177 to R183, Table 10-6): SHOW, PATTERN and GLYPH_LOAD, the colour of a pixel, the lines of
a row, and the row read.
-/

namespace Sys2Proof.Machine

/-! ## SHOW, PATTERN and GLYPH_LOAD (R178, R179, R181) -/

/-- A command that either refuses a value with BADARG or is carried out at its take. -/
theorem exec_badArg_or_done {s u : State} {c : Command} {m : Message} {reply : Bool} {data : List Byte} {bad : Prop} [Decidable bad]
    (ready : s.Ready c m reply) (hlength : c.lengthOk m.params = true)
    (hbody : c.body m (s.taken reply) = if bad then .refuse .badArg else .done u data) (hlki : u.lki = (s.taken reply).lki) :
    exec c.instr s = .next (if bad then s.answered m reply .badArg [] else u.answered m reply .ok data) := by
  by_cases hbad : bad
  · rw [if_pos hbad]
    exact exec_refused ready hlength (by rw [hbody, if_pos hbad])
  · rw [if_neg hbad]
    exact exec_done ready hlength (by rw [hbody, if_neg hbad]) hlki

/-- The rows of one user glyph replaced (R181). -/
def State.setGlyph (s : State) (code : Nat) (rows : List Byte) : State :=
  { s with dou := { s.dou with glyphs := Table.set blankGlyph s.dou.glyphs code rows } }

theorem State.glyph_setGlyph (s : State) (code : Nat) (rows : List Byte) (c : Nat) :
    (s.setGlyph code rows).glyph c = if c = code then rows else s.glyph c := Table.get_set ..

theorem glyphLoadBody_eq (m : Message) (s : State) : glyphLoadBody m s =
    if u8 m.params 0 < 128 ∨ 191 < u8 m.params 0 then .refuse .badArg
    else .done (s.setGlyph (u8 m.params 0) (m.params.drop 1)) [] := rfl

theorem toNat_beq_one (b : Byte) : (b.toNat == 1) = (b == 1) := by
  rw [Bool.eq_iff_iff, beq_iff_eq, beq_iff_eq]
  exact (BitVec.toNat_eq (y := 1)).symm

/-- Settles O40: each command's one range check, then the value that the next frame takes. -/
theorem displayCommandsSetPending : Obligations.DisplayCommandsSetPending := by
  refine ⟨fun s page reply ready => ?_, fun s on reply ready => ?_, fun s code rows reply hrows ready => ?_⟩
  · have shown := exec_badArg_or_done (c := .showPage) ready rfl rfl rfl
    simp only [← Nat.not_le, ite_not] at shown
    exact shown
  · have pattern := exec_badArg_or_done (c := .pattern) ready rfl rfl rfl
    simp only [← Nat.not_le, ite_not] at pattern
    rw [← toNat_beq_one]
    exact pattern
  · have hlength : Command.glyphLoad.lengthOk (code :: rows) = true := by simp [Command.lengthOk, hrows]
    have loaded := exec_badArg_or_done (c := .glyphLoad) ready hlength (glyphLoadBody_eq _ _) rfl
    refine ⟨fun hout => loaded.trans (congrArg _ (if_pos hout)), fun hlow hhigh => ?_⟩
    exact ⟨_, loaded.trans (congrArg _ (if_neg (c := code.toNat < 128 ∨ 191 < code.toNat) (by omega))),
      (s.taken reply).glyph_setGlyph code.toNat rows, rfl⟩

/-! ## The colour of a pixel (R179, R180, R183) -/

theorem componentLevel_eq (bit intensity : Bool) : componentLevel bit intensity = 2 * bit.toNat + intensity.toNat := by
  cases bit <;> cases intensity <;> rfl

theorem levelsOf_eq (c : BitVec 4) : levelsOf c = outputLevels c := by
  simp only [levelsOf, outputLevels, componentLevel_eq]

theorem Dou.phaseOn_eq_false_iff (d : Dou) : d.phaseOn = false ↔ 16 ≤ d.blink := by
  simp [Dou.phaseOn, Nat.lt_iff_add_one_le]

/-- The colour of a pixel outside the test pattern: background while a blinking cell is off, else foreground where the glyph, its
bold shadow or the underline is lit (R183). -/
theorem pixelColour_eq (a : Attr) (phaseOn : Bool) (bits : Byte) (row x : Nat) : pixelColour a phaseOn bits row x =
    let fore := if a.reverse then a.background else a.foreground
    let back := if a.reverse then a.foreground else a.background
    if a.blink ∧ phaseOn = false then back
    else if lit bits x ∨ a.bold ∧ 1 ≤ x ∧ lit bits (x - 1) ∨ a.underline ∧ row = 13 then fore
    else back := by
  simp only [pixelColour, Bool.and_eq_true, Bool.not_eq_true', decide_eq_true_eq, ite_or, and_assoc, Nat.one_le_iff_ne_zero,
    Nat.pos_iff_ne_zero]

theorem Dou.drawnColour_eq (d : Dou) (c : Cell) (row col line x : Nat) :
    (if d.pattern then patternColour row col
      else pixelColour (Table.get Attr.initial d.frameAttrs c.attr) d.phaseOn (d.glyphRow c.char line) line x)
      = d.drawnColour c row col line x := by
  simp only [pixelColour_eq, Dou.phaseOn_eq_false_iff]
  rfl

/-! ## A line of a row (R177, R183, Table 10-6) -/

theorem Dou.cellLine_getElem? (d : Dou) (row line col : Nat) (c : Cell) {x : Nat} (hx : x < 8) :
    (d.cellLine row line col c)[x]? = some (outputLevels (d.drawnColour c row col line x)) := by
  rw [Dou.cellLine, List.getElem?_map, List.getElem?_range hx, Option.map_some, levelsOf_eq, Dou.drawnColour_eq]

/-- The pixels of one line over the cells of a row, left to right. -/
def Dou.activeLine (d : Dou) (row : Nat) (cells : List Cell) (line : Nat) : List Rgb :=
  cells.zipIdx.flatMap fun e => d.cellLine row line e.2 e.1

theorem Dou.drawLine_eq (d : Dou) (row : Nat) (cells : List Cell) (line : Nat) :
    d.drawLine row cells line = scanLine false (d.activeLine row cells line) := rfl

section
variable (d : Dou) (row line : Nat) {cells : List Cell}

theorem Dou.activeLine_length (cells : List Cell) : (d.activeLine row cells line).length = cells.length * 8 := by
  rw [Dou.activeLine, length_flatMap_of_length (width := 8) (fun e => by simp [Dou.cellLine]), List.length_zipIdx]

theorem Dou.activeLine_getElem? {col x : Nat} {c : Cell} (hcell : cells[col]? = some c) (hx : x < 8) :
    (d.activeLine row cells line)[col * 8 + x]? = some (outputLevels (d.drawnColour c row col line x)) := by
  rw [Dou.activeLine, getElem?_flatMap_of_length (fun e => by simp [Dou.cellLine]) _ _ hx, List.getElem?_zipIdx, hcell,
    Option.map_some, Option.bind_some, Nat.zero_add]
  exact d.cellLine_getElem? row line col c hx

theorem Dou.drawLine_length (cells : List Cell) : (d.drawLine row cells line).length = cells.length * 8 + 288 := by
  rw [Dou.drawLine_eq, scanLine_length, Dou.activeLine_length]

theorem Dou.drawLine_active {col x : Nat} {c : Cell} (hcell : cells[col]? = some c) (hx : x < 8) :
    (d.drawLine row cells line)[col * 8 + x]? =
      some { levels := outputLevels (d.drawnColour c row col line x), hsync := false, vsync := false } := by
  obtain ⟨hplace, hlevels⟩ := List.getElem?_eq_some_iff.1 (d.activeLine_getElem? row line hcell hx)
  rw [Dou.drawLine_eq, scanLine_active _ _ _ hplace, hlevels]

theorem Dou.drawLine_blanking (cells : List Cell) {x : Nat} (hx : x < 288) : (d.drawLine row cells line)[cells.length * 8 + x]? =
    some { levels := Rgb.black, hsync := x < 32, vsync := false } := by
  rw [Dou.drawLine_eq, ← d.activeLine_length row line, scanLine_blanking _ _ x hx]

end

/-! ## The glyph of a code (R181, Table 10-3) -/

section
variable (d : Dou) {code : Byte} (row : Nat)

theorem Dou.glyphRow_blank (h : code.toNat ≤ 0x20 ∨ code.toNat = 0x7F ∨ 0xE0 ≤ code.toNat) : d.glyphRow code row = 0 :=
  if_pos h

theorem Dou.glyphRow_user (hlow : 0x80 ≤ code.toNat) (hhigh : code.toNat ≤ 0xBF) :
    d.glyphRow code row = (Table.get blankGlyph d.frameGlyphs code.toNat).getD row 0 :=
  (if_neg (by omega)).trans (if_pos ⟨hlow, hhigh⟩)

theorem Dou.glyphRow_fullBlock : d.glyphRow 0xDB row = 0xFF := rfl

end

/-! ## The row read (R182) -/

theorem State.shownRow_length (s : State) (row : Nat) : (s.shownRow row).length = 132 := by simp [State.shownRow]

theorem State.shownRow_getElem? (s : State) (row : Nat) {col : Nat} (hcol : col < 132) :
    (s.shownRow row)[col]? = some (s.cell ((s.dou.shown * 50 + row) * 132 + col)) := by
  rw [State.shownRow, List.getElem?_map, List.getElem?_range hcol]
  rfl

/-- The display after the read of a row: its cells, and the 14 lines drawn from them (R182). -/
def State.rowShown (s : State) (row : Nat) : State :=
  { s with dou := { s.dou with
      nextRow := some (row + 1), rowCells := s.shownRow row
      video := .lines ((List.range 14).map (s.dou.drawLine row (s.shownRow row))) } }

theorem execRowRead_reads {s : State} {row : Nat} (hreset : s.resetLow = false) (hnext : s.dou.nextRow = some row) (hrow : row < 50) :
    execRowRead s = .next (s.rowShown row) := by
  simp [execRowRead, hnext, hreset, hrow, State.rowShown]

/-- Settles O42: the row taken, then each of its lines, period by period. -/
theorem rowReadDrawsCells : Obligations.RowReadDrawsCells := by
  refine ⟨fun s row hreset hnext hrow => ?_, fun d code row => ⟨d.glyphRow_blank row, d.glyphRow_user row, ?_⟩⟩
  · refine ⟨s.rowShown row, (List.range 14).map (s.dou.drawLine row (s.shownRow row)), execRowRead_reads hreset hnext hrow, rfl,
      s.shownRow_length row, rfl, by simp, fun col => s.shownRow_getElem? row, fun line hline => ?_, rfl⟩
    refine ⟨s.dou.drawLine row (s.shownRow row) line, by rw [List.getElem?_map, List.getElem?_range hline, Option.map_some], ?_,
      fun col x hcol hx => s.dou.drawLine_active row line (s.shownRow_getElem? row hcol) hx, fun x hlow hhigh => ?_⟩
    · rw [Dou.drawLine_length, State.shownRow_length]
    · obtain ⟨y, rfl⟩ := Nat.exists_eq_add_of_le hlow
      have dark := s.dou.drawLine_blanking row line (s.shownRow row) (x := y) (by omega)
      rw [State.shownRow_length] at dark
      refine dark.trans ?_
      have hsync : y < 32 ↔ 1056 + y < 1088 := by omega
      rw [decide_eq_decide.2 hsync]
      rfl
  · rintro rfl
    exact d.glyphRow_fullBlock row

end Sys2Proof.Machine
end

section
/-!
PROOFS, power-on reset (R184, R192, Table 11-4): the values of each block.
-/

namespace Sys2Proof.Machine

/-- The part in power-on reset with the commands that still wait. -/
def State.resetWith (pending : List Instr) : State := { State.reset with pending := pending }

theorem exec_powerOnReset (s : State) : exec .powerOnReset s = .next (State.resetWith s.pending) := rfl

/-- Every condition of both banks maps to index 0. -/
theorem State.resetWith_scheme (pending : List Instr) (bank : Bank) (c : Nat) : (State.resetWith pending).scheme bank c = 0 := by
  cases bank <;> rfl

/-- NOTICE is released: no sticky flag is set and the alert notice is disabled (R186). -/
theorem State.resetWith_noticeAsserted (pending : List Instr) : (State.resetWith pending).noticeAsserted = false := by
  simp [State.noticeAsserted, State.resetWith, State.reset]

/-- The transmitter is IDLE: it drives nothing and no reply waits (R16). -/
theorem State.resetWith_transmitter (pending : List Instr) : (State.resetWith pending).lki.transmitter = .idle := rfl

/-- Settles O2: the reset state, block by block in the order of Table 11-4. -/
theorem powerOnResetTakesTableValues : Obligations.PowerOnResetTakesTableValues := by
  intro s
  exact ⟨State.resetWith s.pending, exec_powerOnReset s, rfl, rfl,
    -- LKI, with the transmitter idle and the reply line released
    rfl, rfl, rfl, rfl, rfl, rfl, rfl, rfl, State.resetWith_transmitter _, rfl, rfl,
    -- MDC, FTB
    rfl, fun _ => rfl, rfl, rfl, rfl, fun _ => rfl, fun _ => rfl,
    -- the alert list, the panels, ATU
    rfl, fun _ => rfl, fun _ => rfl, State.resetWith_scheme _,
    -- PTR, AGU, CST
    rfl, rfl, rfl, rfl, rfl, rfl, fun _ => rfl, rfl,
    -- DOU, STU and NOTICE
    rfl, rfl, rfl, rfl, rfl, rfl, fun _ => rfl, rfl, rfl, rfl, rfl, State.resetWith_noticeAsserted _⟩

end Sys2Proof.Machine
end

section
/-!
PROOFS, start-up (R191, R192): what RESET low holds and its release, and the promises at power-on reset.
-/

namespace Sys2Proof.Machine

/-! ## While RESET is low (R192) -/

section
variable {s : State} (hlow : s.resetLow = true)
include hlow

theorem runCommand_of_resetLow (c : Command) (body : Message → State → Verdict) : runCommand c body s = s := by
  rcases runCommand_cases c body s with same | ⟨m, reply, ready⟩
  · exact same
  · exact Bool.noConfusion (ready.running.symm.trans hlow)

theorem State.mayTake_of_resetLow (reply : Bool) : s.mayTake reply = false := by simp [State.mayTake, hlow]

theorem State.grantsPtr_of_resetLow : s.grantsPtr = false := by simp [State.grantsPtr, hlow]

theorem State.grantsMdc_of_resetLow : s.grantsMdc = false := by simp [State.grantsMdc, hlow]

theorem rxStep_of_resetLow (before next : RxState) : rxStep before next s = s := by simp [rxStep, hlow]

/-- Nothing but reset and its release comes about: a command is not taken, and every event waits for RESET to be high. -/
theorem exec_of_resetLow {i : Instr} (hreset : i ≠ .powerOnReset) (hrelease : ∀ strap, i ≠ .resetRelease strap) :
    exec i s = .next s := by
  have grantPtr {r : Step} : (if s.grantsPtr then r else .next s) = .next s := by
    rw [State.grantsPtr_of_resetLow hlow, if_neg Bool.false_ne_true]
  have grantMdc {r : Step} : (if s.grantsMdc then r else .next s) = .next s := by
    rw [State.grantsMdc_of_resetLow hlow, if_neg Bool.false_ne_true]
  have event {r : Step} {more : Bool} : (if !s.resetLow && more then r else .next s) = .next s := by
    rw [hlow, Bool.not_true, Bool.false_and, if_neg Bool.false_ne_true]
  cases i with
  | powerOnReset => exact absurd rfl hreset
  | resetRelease strap => exact absurd rfl (hrelease strap)
  | settleEnd | startBitFall | falseStart | awaitHighExit =>
    exact congrArg Host.Outcome.next (rxStep_of_resetLow hlow _ _)
  | addressCharacter | dataCharacter | breakEvent | replyCutShort | sweep => exact event
  | frameStart => exact execFrameStart_waits s (by rw [hlow, Bool.true_or])
  | assemblerTake | replyStart | rowRead | painterTake =>
    simp only [exec, execAssemblerTake, execReplyStart, execRowRead, execPainterTake, event]
    split <;> rfl
  | replyEnd =>
    simp only [exec, execReplyEnd, if_pos hlow]
    split <;> rfl
  | vacateWriteGrant | textWriteGrant =>
    simp only [exec, execVacateWriteGrant, execTextWriteGrant, grantMdc]
    split <;> rfl
  | paintWriteGrant | clearWriteGrant =>
    simp only [exec, execPaintWriteGrant, execClearWriteGrant, grantPtr]
    split <;> rfl
  | discardNoticeTake | unknownCommand =>
    simp only [exec, execDiscardNoticeTake, execUnknownCommand, State.mayTake_of_resetLow hlow, Bool.false_and,
      if_neg Bool.false_ne_true]
    split <;> rfl
  | bind | amend | retire | lookup | probe | tick | qtick | refer | extremesClear | stale | alerts | panelOpen | panelClose
  | panelFreeze | panelThaw | panelMove | attrSet | schemeSet | schemeSwap | text | fill | showPage | pattern | glyphLoad | status
  | config | sync => exact congrArg Host.Outcome.next (runCommand_of_resetLow hlow _ _)

end

/-- Settles O3: the release by its one branch, and the rest by what waits for RESET to be high. -/
theorem resetHoldsUntilRelease : Obligations.ResetHoldsUntilRelease :=
  ⟨fun _ _ hlow => if_pos hlow, fun _ _ hlow hreset hrelease => exec_of_resetLow hlow hreset hrelease⟩

/-! ## The promises at power-on reset (Table 11-4) -/

/-- Settles O58: the reset state of each block keeps the block's promises. -/
theorem resetIsSound : Obligations.ResetIsSound :=
  have fields := State.reset_fieldsSound []
  { tables := State.reset_canonical
    link := State.linkSound_of_not_owed State.reset_lki_sound rfl
    bounded := State.reset_bounded
    inRange := State.reset_inRange
    queue := State.reset_queueSound []
    chains := fields.chains
    mirrors := fields.mirrors
    guarded := fields.guarded
    claims := State.reset_claimsSound []
    records := fields.records
    alerts := fields.alerts
    counted := fields.counted }

end Sys2Proof.Machine
end

section
/-!
PROOFS, the Status Unit (R186, R187, R189): STATUS, the NOTICE line and CONFIG.
-/

namespace Sys2Proof.Machine

/-! ## STATUS (R187, Table 11-2) -/

/-- The pending page is reported as 0xFF when there is none. -/
theorem pageByte_eq (page : Option Nat) : byte (page.getD 255) = match page with
    | some page => BitVec.ofNat 8 page
    | none => 0xFF := by
  cases page <;> rfl

theorem addressByte_eq (address : BitVec 4) : byte address.toNat = address.setWidth 8 := BitVec.ofNat_toNat 8 address

/-- The sticky flags that a mask names cleared. -/
def State.clearSticky (s : State) (mask : Byte) : State := { s with stu := { s.stu with sticky := s.stu.sticky &&& ~~~ mask } }

theorem State.clearSticky_bit (s : State) (mask : Byte) {i : Nat} (hi : i < 8) :
    (s.clearSticky mask).stu.sticky.getLsbD i = (s.stu.sticky.getLsbD i && !mask.getLsbD i) := by
  simp [State.clearSticky, hi]

theorem exec_status {s : State} {mask : Byte} {reply : Bool} (ready : s.Ready .status ⟨0x70, [mask]⟩ reply) :
    exec .status s = .next (((s.taken reply).clearSticky mask).answered ⟨0x70, [mask]⟩ reply .ok (statusBytes s)) :=
  exec_done (c := .status) ready rfl rfl rfl

/-! ## NOTICE (R186) -/

theorem and_ne_zero_iff (a b : Byte) : a &&& b ≠ 0 ↔ ∃ i, i < 8 ∧ a.getLsbD i = true ∧ b.getLsbD i = true := by
  rw [Ne, BitVec.eq_of_getLsbD_eq_iff]
  simp

theorem State.noticeAsserted_iff (s : State) : s.noticeAsserted = true ↔
    (∃ i, i < 8 ∧ s.stu.sticky.getLsbD i = true ∧ s.stu.flagEnables.getLsbD i = true)
    ∨ s.stu.alertEnable = true ∧ s.alerts ≠ [] := by
  rw [← and_ne_zero_iff]
  simp [State.noticeAsserted]

/-- Settles O43: the bytes as they stand, the cleared flags bit by bit, and NOTICE by the bits in common. -/
theorem statusReportsThenClears : Obligations.StatusReportsThenClears := by
  refine ⟨fun s mask reply ready => ?_, State.noticeAsserted_iff⟩
  intro data
  have bytes : statusBytes s = data := by
    rw [statusBytes, pageByte_eq, addressByte_eq]
    rfl
  exact ⟨(s.taken reply).clearSticky mask, bytes ▸ exec_status ready, rfl, fun _ => (s.taken reply).clearSticky_bit mask, rfl⟩

/-! ## CONFIG (R167, R189) -/

/-- Every setting of a CONFIG message stored, clamped as R167 gives. -/
def State.configured (s : State) (p : List Byte) : State :=
  { s with
    agu := { s.agu with flashFrames := max 1 (u8 p 0), alertFrames := max 1 (u8 p 1), threshold := min 1023 (u16 p 2) }
    lki := { s.lki with replyGap := u8 p 4 }
    stu := { s.stu with flagEnables := p.getD 5 0, alertEnable := u8 p 6 == 1 } }

/-- CONFIG has one check, and no setting is among what the take changes. -/
theorem configBody_taken (m : Message) (s : State) (reply : Bool) : configBody m (s.taken reply) =
    if 1 < u8 m.params 6 then .refuse .badArg else .done ((s.configured m.params).taken reply) [] := rfl

theorem exec_config {s : State} {m : Message} {reply : Bool} (ready : s.Ready .config m reply)
    (hlength : Command.config.lengthOk m.params = true) :
    exec .config s = .next (if 1 < u8 m.params 6 then s.answered m reply .badArg []
      else (s.configured m.params).answered m reply .ok []) := by
  have body : Command.config.body m (s.taken reply) = _ := configBody_taken m s reply
  split
  · next hbad => exact exec_refused ready hlength (by rw [body, if_pos hbad])
  · next hok =>
    change exec Command.config.instr s = _
    rw [exec_instr, runCommand_ready ready, if_pos hlength, body, if_neg hok]
    exact congrArg Host.Outcome.next ((s.configured m.params).takeHeld_endExecution m reply .ok [])

/-- A frame count of 0 is stored as 1 (R167). -/
theorem max_one_u8 (p : List Byte) (i : Nat) : max 1 (u8 p i) = if p.getD i 0 = 0 then 1 else u8 p i := by
  have hzero : p.getD i 0 = 0 ↔ u8 p i = 0 := BitVec.toNat_eq
  simp only [hzero]
  split <;> omega

/-- Settles O44: the one check, then the clamps in the form of R167. -/
theorem configStoresSettings : Obligations.ConfigStoresSettings := by
  intro s ff fa t1 t0 gap enables alert reply ready
  have stored := exec_config ready rfl
  simp only [State.configured, max_one_u8, min_def_lt] at stored
  rw [← toNat_beq_one]
  exact stored

end Sys2Proof.Machine
end

section
/-!
PROOFS, the step itself (95_what_each_step_holds.md): the command at the front of the queue, or none.
-/

namespace Sys2Proof.Machine

/-! ## The two shapes of the queue -/

/-- A command in front is taken from the queue and run; `step` matches on the queue alone. -/
theorem step_of_pending_cons {s : State} {c : Instr} {rest : List Instr} (hpending : s.pending = c :: rest) :
    step s = exec c { s with pending := rest } := by
  simp only [step, hpending]

/-- With nothing waiting the block idles (log entry 3). -/
theorem step_of_pending_nil {s : State} (hpending : s.pending = []) : step s = .next s := by
  simp only [step, hpending]

/-- Settles O1: one equation of `step` for each shape of the queue. -/
theorem stepRunsFrontCommand : Obligations.StepRunsFrontCommand :=
  ⟨fun _ _ _ => step_of_pending_cons, fun _ => step_of_pending_nil⟩

end Sys2Proof.Machine
end
